-- ==== Sys2Proof/Word.lean ====
section
/-! DEFINITION. The plain words of the model: bytes, checks, sums, sequence numbers and timer readings.
Only what the manual treats as bits is a bit vector; days, money, counts and identifiers are `Nat`. -/

namespace Sys2Proof

/-- One byte of a frame (R159). -/
abbrev Byte := BitVec 8

/-- A CRC-16: the check of a frame (R159) and of a record (R43). -/
abbrev Check := BitVec 16

/-- A sum of record checks modulo 2^32 (R44). -/
abbrev CheckSum := BitVec 32

/-- A journal sequence number; its arithmetic is modulo 2^32 (R122). -/
abbrev Seq := BitVec 32

/-- A reading of a wand's free-running microsecond timer, which wraps (R2; its width: log 6). -/
abbrev Stamp := BitVec 32

end Sys2Proof
end

