-- ==== Sys2Proof/Syntax.lean ====
section
/-! DEFINITION. The commands of the block: one constructor for each row of spec/opcode_table.json.
A request row is the arrival at a port of a frame whose CRC agrees; it carries the port, the frame's tag and its
payload bytes (R159, R161, R167, R168). An event row carries the desk or the port it happens at and what the
line reports. -/

namespace Sys2Proof

/-- One of the two service points (00_scope, Terms): the Console desk has Wand A, Printer A and Presence A, the
Kiosk desk Wand B, Printer B and Presence B. -/
inductive Desk where
  | console | kiosk
  deriving DecidableEq, Repr

/-- The part's end of a master's link (00_scope, Terms). The Uplink port has no desk. -/
inductive Port where
  | console | kiosk | uplink
  deriving DecidableEq, Repr

/-- What a wand line reports (00_scope, R2). -/
inductive LineLevel where
  | dark | light
  deriving DecidableEq, Repr

/-- A presence input or presence state (R16, numbered in that order). -/
inductive Presence where
  | asserted | released
  deriving DecidableEq, Repr

/-- The commands, one per row of the opcode table. -/
inductive Instr where
  -- wand and desk events
  | wandTransition (d : Desk) (level : LineLevel) (stamp : Stamp)
  | quietPeriod (d : Desk)
  | scanEnd (d : Desk)
  | wandRestsOnDark (d : Desk)
  | presenceChange (d : Desk) (input : Presence)
  | holdTimerExpiry (d : Desk)
  | idleTimerExpiry (d : Desk)
  | gatherTimerExpiry (d : Desk)
  -- requests
  | scanTake (p : Port) (tag : Byte) (payload : List Byte)
  | checkout (p : Port) (tag : Byte) (payload : List Byte)
  | returnItem (p : Port) (tag : Byte) (payload : List Byte)
  | renew (p : Port) (tag : Byte) (payload : List Byte)
  | borrowerQuery (p : Port) (tag : Byte) (payload : List Byte)
  | loansList (p : Port) (tag : Byte) (payload : List Byte)
  | slipCut (p : Port) (tag : Byte) (payload : List Byte)
  | printerResume (p : Port) (tag : Byte) (payload : List Byte)
  | unbind (p : Port) (tag : Byte) (payload : List Byte)
  | noticeTake (p : Port) (tag : Byte) (payload : List Byte)
  | status (p : Port) (tag : Byte) (payload : List Byte)
  | finePay (p : Port) (tag : Byte) (payload : List Byte)
  | borrowerAdd (p : Port) (tag : Byte) (payload : List Byte)
  | itemFlagSet (p : Port) (tag : Byte) (payload : List Byte)
  | policyLoad (p : Port) (tag : Byte) (payload : List Byte)
  | dateSet (p : Port) (tag : Byte) (payload : List Byte)
  | deskOpen (p : Port) (tag : Byte) (payload : List Byte)
  | deskClose (p : Port) (tag : Byte) (payload : List Byte)
  | nightEnter (p : Port) (tag : Byte) (payload : List Byte)
  | nightLeave (p : Port) (tag : Byte) (payload : List Byte)
  | journalArm (p : Port) (tag : Byte) (payload : List Byte)
  | journalFetch (p : Port) (tag : Byte) (payload : List Byte)
  | journalRelease (p : Port) (tag : Byte) (payload : List Byte)
  | journalRewind (p : Port) (tag : Byte) (payload : List Byte)
  | borrowerLoad (p : Port) (tag : Byte) (payload : List Byte)
  | itemFlagsLoad (p : Port) (tag : Byte) (payload : List Byte)
  | markAll (p : Port) (tag : Byte) (payload : List Byte)
  | purgeMarked (p : Port) (tag : Byte) (payload : List Byte)
  | tableClear (p : Port) (tag : Byte) (payload : List Byte)
  | tableRebuild (p : Port) (tag : Byte) (payload : List Byte)
  | loanLoad (p : Port) (tag : Byte) (payload : List Byte)
  -- port events
  | unknownRequest (p : Port) (tag : Byte) (code : Byte) (payload : List Byte)
  | badFrame (p : Port) (received : List Byte)
  | interByteTimeout (p : Port) (received : List Byte)
  | stopBitError (p : Port) (received : List Byte)
  | consoleSelect (clockedIn : List Byte)
  | outputFrameSent (p : Port)
  | portBreak (p : Port)
  -- commits and ends of what the engine serves
  | checkoutCommit
  | returnCommit
  | renewCommit
  | finePayCommit
  | borrowerAddCommit
  | itemFlagSetCommit
  | borrowerQueryEnd
  | loansListEnd
  | policyLoadCommit
  | borrowerLoadStep
  | itemFlagsLoadStep
  | markAllStep
  | purgeMarkedStep
  | tableClearStep
  | tableRebuildStep
  | loanLoadStep
  | sweepBatch
  | scrubStep
  -- clock and desk hours
  | rollover
  | openingEvent
  | closingEvent
  | drainTimerExpiry
  -- printers
  | busyRelease (d : Desk)
  | waitTimerExpiry (d : Desk)
  | gapEnd (d : Desk)
  | paperOutAssert (d : Desk)
  | paperOutRelease (d : Desk)
  -- supply, battery and start-up
  | supplyFail (commitBegun : Bool)
  | resetAssert (commitBegun : Bool)
  | batteryBelowHold
  | supplyValid
  | resetRelease
  | startupIntact (batteryBelow : Bool)
  | startupLost (batteryBelow : Bool)
  | batterySample (batteryBelow : Bool)
  deriving DecidableEq, Repr

end Sys2Proof
end

