-- ==== Sys2Proof/Decode.lean ====
section
/-! DEFINITION. The command a word spells by the opcode table's bits. No row of spec/opcode_table.json gives bits: a
master spells its requests as frames (R159, R162, R167), which Machine/Bytes.lean and Machine/Operands.lean read, and
the other rows are events. So no word spells a command. -/

namespace Sys2Proof

/-- The command that `w`, of `nbits` bits, spells by the table's bits: none, since no row of the table has bits. -/
def decodeTableWord (_nbits _w : Nat) : Option Instr := none

end Sys2Proof
end

