-- ==== Sys2Proof/Machine/Records.lean ====
section
/-! DEFINITION. The records and values the manual names: labels, the three kinds of table record, the policy
sections, journal entries, slips, notices, frames and the operations a port hands to the engine. Plain data only.
Enumerations list their values in the order the manual's defining list gives, which is the order R167 numbers
them in. -/

namespace Sys2Proof.Machine

/-! ## Labels (chapter 1) -/

/-- The kind of an identifier (R1; numbered by the label report of R167). -/
inductive LabelKind where
  | borrower | item
  deriving DecidableEq, Repr

/-- The direction of a scan (R6). -/
inductive Direction where
  | forward | backward
  deriving DecidableEq, Repr

/-- The label report a decoder hands to its desk context (R10). -/
structure LabelReport where
  kind : LabelKind
  number : Nat
  direction : Direction
  time : Nat
  deriving DecidableEq, Repr

/-- The misread causes (R9). -/
inductive MisreadCause where
  | length | noStart | badCharacter | broken | badStructure | check | resting
  deriving DecidableEq, Repr

/-- A wand's last-misread record (R9): the cause and, for three of the causes, a character position 1 to 14. -/
structure Misread where
  cause : MisreadCause
  position : Option Nat
  deriving DecidableEq, Repr

/-- Scan phases (R3). -/
inductive ScanPhase where
  | quietWait | ready | scanning
  deriving DecidableEq, Repr

/-- Wand states (R11). -/
inductive WandState where
  | off | standby | active
  deriving DecidableEq, Repr

/-- Wand modes (section 1.6). -/
inductive WandMode where
  | off | on | presence | presenceHold
  deriving DecidableEq, Repr

/-- One port's copy of a wand's clear-on-read counters and record (R14). -/
structure WandCounters where
  goodRead : Nat
  misread : Nat
  duplicate : Nat
  lastMisread : Option Misread
  deriving DecidableEq, Repr

/-! ## Table records (chapter 3) -/

/-- How a borrower record came to be (R32). A reply gives it as its place in this list, the order of R32's field table;
R32's second table lists the same values in another order (log 16). -/
inductive Origin where
  | downloaded | provisional | rebuilt
  deriving DecidableEq, Repr

/-- A borrower record without its record check (R32). -/
structure BorrowerRecord where
  number : Nat
  category : Nat
  expiryDay : Nat
  fineBalance : Nat
  loanCount : Nat
  overdueLoans : Nat
  serverBlock : Nat
  origin : Origin
  stale : Bool
  deriving DecidableEq, Repr

/-- A loan record without its record check (R33). `overridden` is the manual's field "override". -/
structure LoanRecord where
  item : Nat
  borrower : Nat
  itemClass : Nat
  outDay : Nat
  dueDay : Nat
  chargedThrough : Nat
  fineAccrued : Nat
  renewals : Nat
  desk : Desk
  countedOverdue : Bool
  overridden : Bool
  deriving DecidableEq, Repr

/-- An exception entry without its record check (R38). The flag HOLD is set exactly when `holdFor` holds the hold
borrower, since R38 has the hold borrower present exactly then. -/
structure ExceptionRecord where
  item : Nat
  holdFor : Option Nat
  notLoanable : Bool
  missing : Bool
  classOverride : Option Nat
  deriving DecidableEq, Repr

/-- Health of a table or of the policy (R46). -/
inductive Health where
  | sound | suspect
  deriving DecidableEq, Repr

/-- The four checked tables (R46). -/
inductive TableId where
  | borrowers | loans | items | policy
  deriving DecidableEq, Repr

/-- An occupied slot: its number, its record and the check stored with the record (R31, R43). -/
structure Entry (ρ : Type) where
  slot : Nat
  rcd : ρ
  check : Check
  deriving DecidableEq, Repr

/-- A keyed table: its occupied slots in ascending order, its maintained table sum (R44) and its health (R46). -/
structure Table (ρ : Type) where
  entries : List (Entry ρ)
  sum : CheckSum
  health : Health
  deriving DecidableEq, Repr

/-! ## Policy sections (chapters 3, 4, 6, 7, 9) -/

/-- A loan-matrix cell (R145). -/
structure MatrixCell where
  period : Nat
  renewalLimit : Nat
  deriving DecidableEq, Repr

/-- The terms of one item class (R60). -/
structure ClassTerms where
  grace : Nat
  rate : Nat
  cap : Nat
  deriving DecidableEq, Repr

/-- The terms of one borrower category (R145). -/
structure CategoryTerms where
  loanLimit : Nat
  fineLimit : Nat
  overdueBlock : Nat
  provisionalDays : Nat
  deriving DecidableEq, Repr

/-- Overflow mode of a scan queue (R16). -/
inductive OverflowMode where
  | keepOldest | keepNewest
  deriving DecidableEq, Repr

/-- One desk's terms (R146). The branch name is its character codes. -/
structure DeskTerms where
  wandMode : WandMode
  doubleScan : Nat
  autoBind : Bool
  unbindOnLeave : Bool
  idleTime : Nat
  overflow : OverflowMode
  defaultClass : Nat
  gatherTime : Nat
  waitLimit : Nat
  branchName : List Byte
  deriving DecidableEq, Repr

/-- The desk terms section (R146): a set of terms for each desk and the shared terms. -/
structure DeskSection where
  console : DeskTerms
  kiosk : DeskTerms
  opening : Nat
  closing : Nat
  levelConsole : Nat
  levelKiosk : Nat
  levelSweep : Nat
  levelUplink : Nat
  deriving DecidableEq, Repr

/-- The calendar section (R57). Bit p of the mask closes weekday p; bit i of the set is mark i. -/
structure Calendar where
  year : Nat
  month : Nat
  day : Nat
  weekday0 : Nat
  closedMask : BitVec 7
  base : Nat
  closedDays : BitVec 512
  deriving DecidableEq, Repr

/-- One entry of the class range list (R41). -/
structure ClassRange where
  low : Nat
  high : Nat
  itemClass : Nat
  deriving DecidableEq, Repr

/-- The six policy sections, numbered in this order (R48, R168). -/
inductive PolicySection where
  | matrix | classTerms | categoryTerms | deskTerms | calendar | classRanges
  deriving DecidableEq, Repr

/-- The contents of the six sections. The matrix lists class 0 with categories 0 to 7 first (R168). -/
structure PolicyData where
  matrix : List MatrixCell
  classTerms : List ClassTerms
  categoryTerms : List CategoryTerms
  desks : DeskSection
  calendar : Calendar
  ranges : List ClassRange
  deriving DecidableEq, Repr

/-- One value for each policy section. -/
structure BySection (α : Type) where
  matrix : α
  classTerms : α
  categoryTerms : α
  deskTerms : α
  calendar : α
  classRanges : α
  deriving DecidableEq, Repr

/-- The whole contents of one section, as a POLICY_LOAD carries them (R144). -/
inductive SectionContents where
  | matrix (cells : List MatrixCell)
  | classTerms (terms : List ClassTerms)
  | categoryTerms (terms : List CategoryTerms)
  | deskTerms (terms : DeskSection)
  | calendar (c : Calendar)
  | classRanges (ranges : List ClassRange)
  deriving DecidableEq, Repr

/-- The Policy Store (R48): contents, section checks, policy sum, health and reloaded marks. -/
structure PolicyStore where
  data : PolicyData
  checks : BySection Check
  sum : CheckSum
  health : Health
  reloaded : BySection Bool
  deriving DecidableEq, Repr

/-! ## Journal (chapter 8) -/

/-- Entry kinds (R121, in the order of the kind table). -/
inductive EntryKind where
  | checkout | returned | unmatchedReturn | renew | fine | payment | borrowerAdded | itemFlagged | dayMark | dateSet
  | restart
  deriving DecidableEq, Repr

/-- Entry sources (R121, R167). -/
inductive EntrySource where
  | console | kiosk | sweep | clock | part
  deriving DecidableEq, Repr

/-- The flags a held entry can carry (R121); DAMAGED is never held (R128). -/
structure EntryFlags where
  override : Bool := false
  isImplicit : Bool := false
  saturated : Bool := false
  holdFilled : Bool := false
  deriving DecidableEq, Repr

/-- The fields a commit gives an entry before the journal numbers it (R86, R121). -/
structure EntryDraft where
  kind : EntryKind
  day : Nat
  time : Nat
  source : EntrySource
  borrower : Option Nat := none
  item : Option Nat := none
  dueDay : Option Nat := none
  amount : Option Nat := none
  flags : EntryFlags := {}
  deriving DecidableEq, Repr

/-- A held journal entry (R121). -/
structure JournalEntry where
  sequence : Seq
  fields : EntryDraft
  check : Check
  deriving DecidableEq, Repr

/-- Journal levels (R125). -/
inductive Level where
  | calm | prompt | pressed | critical | full
  deriving DecidableEq, Repr

/-- A DATE_SET entry waiting for the engine to become FREE (R124). -/
structure DateEntry where
  day : Nat
  time : Nat
  deriving DecidableEq, Repr

/-! ## Slips and printers (chapter 7) -/

/-- Slip kinds (R105). -/
inductive SlipKind where
  | loan | route | payment
  deriving DecidableEq, Repr

/-- A LOAN line (R105, R107). -/
structure SlipLine where
  item : Nat
  dueDay : Nat
  renewed : Bool
  deriving DecidableEq, Repr

/-- What a slip of each kind carries (R105). -/
inductive SlipBody where
  | loan (borrower : Nat) (lines : List SlipLine)
  | route (item : Nat) (lastFour : Nat)
  | payment (amount : Nat) (balance : Nat)
  deriving DecidableEq, Repr

/-- A slip (R105). -/
structure Slip where
  desk : Desk
  day : Nat
  time : Nat
  body : SlipBody
  deriving DecidableEq, Repr

/-- A desk's open slip with lines in it (R106, R107). -/
structure OpenSlip where
  borrower : Nat
  day : Nat
  time : Nat
  lines : List SlipLine
  deriving DecidableEq, Repr

/-- Printer states (section 7.5, numbered from OFF = 0 by R168). -/
inductive PrinterState where
  | off | idle | printing | waiting | gap | stalled | noPaper
  deriving DecidableEq, Repr

/-- The slip status of a cut or of a commit (R87, R106, R109). -/
inductive SlipStatus where
  | none | queued | spoolFullLost | printerState (st : PrinterState)
  deriving DecidableEq, Repr

/-! ## Part, engine and scrubber -/

/-- Part states (R148). -/
inductive PartState where
  | starting | open | closing | night | retaining
  deriving DecidableEq, Repr

/-- Last start-up kind (section 10.1). -/
inductive StartKind where
  | intact | lost
  deriving DecidableEq, Repr

/-- The engine's requesters, in the fixed tie order (R89). -/
inductive Requester where
  | console | kiosk | sweep | uplink | scrubber
  deriving DecidableEq, Repr

/-- One value for each requester. A set of requesters is a `ByRequester Bool`. -/
structure ByRequester (α : Type) where
  console : α
  kiosk : α
  sweep : α
  uplink : α
  scrubber : α
  deriving DecidableEq, Repr

/-- Sweep pass states (section 6.6). -/
inductive PassState where
  | idle | requesting | served | stalled
  deriving DecidableEq, Repr

/-! ## Notices (R164, R165) -/

/-- Causes of BORROWER_UNBOUND (R19). -/
inductive UnbindCause where
  | idle | left | request | closing
  deriving DecidableEq, Repr

/-- Causes of SLIP_LOST (R165). -/
inductive LostCause where
  | spoolFull | drain | night
  deriving DecidableEq, Repr

/-- Causes of TABLE_FAULT (R165). -/
inductive FaultCause where
  | sumAtStart | retained | recordCheck | passSum | clearing | rebuilding
  deriving DecidableEq, Repr

/-- The notices (R165, in the order of its table), with their arguments. -/
inductive Notice where
  | scanReady (kind : LabelKind) (number : Nat)
  | borrowerBound (borrower : Nat) (bindTime : Nat)
  | borrowerUnbound (borrower : Nat) (cause : UnbindCause)
  | slipLost (cause : LostCause) (count : Nat) (kind : Option SlipKind) (borrower : Option Nat)
  | printerState (st : PrinterState) (depth : Nat)
  | journalLevel (level : Level) (occupancy : Nat)
  | sweepDone (day : Nat)
  | batteryLow
  | uploadDone (lastDelivered : Seq) (occupancy : Nat)
  | tableFault (table : TableId) (cause : FaultCause) (slot : Option Nat)
  | partState (st : PartState)
  | dayRolled (today : Nat)
  deriving DecidableEq, Repr

/-! ## Requests, replies and frames (chapter 11) -/

/-- The request codes (R162): the number of each is its place here, counted from 1. -/
inductive ReqCode where
  | scanTake | checkout | returnItem | renew | borrowerQuery | loansList | slipCut | printerResume | unbind
  | noticeTake | status | finePay | borrowerAdd | itemFlagSet | policyLoad | dateSet | deskOpen | deskClose
  | journalArm | journalFetch | journalRelease | journalRewind | borrowerLoad | itemFlagsLoad | markAll | purgeMarked
  | tableClear | tableRebuild | loanLoad | nightEnter | nightLeave
  deriving DecidableEq, Repr

/-- The reply codes, numbered 0 to 36 in this order (R167). -/
inductive ReplyCode where
  | ok | busy | notPermitted | unknownRequest | badLength | badField | badFrame | notReady | deskClosed | deskClosing
  | notInNight | dateUnset | dateBackward | dateRange | tableSuspect | unknownBorrower | noBorrower | noItem | wrongKind
  | alreadyExists | blockedServer | blockedExpired | blockedFines | blockedOverdue | limitReached | itemNotLoanable
  | itemHeld | itemMissing | onLoanElsewhere | alreadyOnLoan | notOnLoan | renewLimit | renewNoGain | tableFull
  | journalFull | notArmed | empty
  deriving DecidableEq, Repr

/-- The reply flags (R167). -/
structure ReplyFlags where
  clamped : Bool := false
  stale : Bool := false
  holdRoute : Bool := false
  implicitReturn : Bool := false
  slipLost : Bool := false
  deriving DecidableEq, Repr

/-- One result field of a reply, by the field types of R167 and R168; each constructor fixes the bytes it takes. -/
inductive Field where
  | ident (n : Nat)                -- identifier, 5 bytes
  | day (n : Nat)                  -- day, 2 bytes
  | time (n : Nat)                 -- time of day, 4 bytes
  | seq (q : Seq)                  -- sequence, 4 bytes
  | count (n : Nat)                -- a count that may exceed 255, 4 bytes
  | money (n : Nat)                -- money, amount, 4 bytes
  | cents (n : Nat)                -- fine_accrued, 2 bytes
  | small (n : Nat)                -- a count up to 255, class, category, server_block, level, enumerated value: 1 byte
  | flag (b : Bool)                -- a presence byte or a condition: 1 byte
  | raw (bytes : List Byte)        -- bytes laid out by a table of R167
  deriving DecidableEq, Repr

/-- A frame waiting in an output queue (R160): a reply of the in-flight request, or an answer of R161 or R159. The
request code is echoed in the payload (R167). -/
structure OutFrame where
  tag : Byte
  code : ReplyCode
  request : Byte
  flags : ReplyFlags
  results : List Field
  isReply : Bool
  deriving DecidableEq, Repr

/-- The frame receiver (R159): in COLLECTING it holds the bytes that followed SYNC. -/
inductive Receiver where
  | hunt
  | collecting (got : List Byte)
  deriving DecidableEq, Repr

/-- What the frame receiver finds at a byte (R159). -/
inductive RxEvent where
  | good (tag : Byte) (code : Byte) (payload : List Byte)
  | bad
  deriving DecidableEq, Repr

/-! ## Loads (chapter 9) -/

/-- A BORROWER_LOAD record as laid out by R167. -/
structure BorrowerLoadRecord where
  borrower : Nat
  category : Nat
  expiryDay : Nat
  serverBlock : Nat
  delta : Int
  remove : Nat
  reference : List Byte
  deriving DecidableEq, Repr

/-- An ITEM_FLAGS_LOAD record as laid out by R167. -/
structure ItemLoadRecord where
  item : Nat
  action : Nat
  flags : Byte
  holdBorrower : Nat
  classOverride : Nat
  deriving DecidableEq, Repr

/-- A LOAN_LOAD record as laid out by R167. -/
structure LoanLoadRecord where
  item : Nat
  borrower : Nat
  itemClass : Nat
  outDay : Nat
  dueDay : Nat
  chargedThrough : Nat
  fineAccrued : Nat
  renewals : Nat
  desk : Nat
  reference : List Byte
  deriving DecidableEq, Repr

/-- Record outcomes (R134, in its order). -/
inductive RecordOutcome where
  | inserted | updated | removed | keptWithdrawn | absent | duplicate | unknownBorrower | limitReached | tableFull
  | badField
  deriving DecidableEq, Repr

/-- The outcome kept for one record of a load (R134): its outcome, its CLAMPED mark, and what the reply gives with it
(the gateway reference, or the item number for ITEM_FLAGS_LOAD, R167). -/
structure RecordReport where
  outcome : RecordOutcome
  clamped : Bool
  reference : List Byte
  deriving DecidableEq, Repr

/-- The flag ITEM_FLAG_SET names (R83). -/
inductive ItemFlag where
  | missing | notLoanable
  deriving DecidableEq, Repr

/-- An operation a port's in-flight request asks of the engine, with the progress a burst keeps (R134). -/
inductive EngineOp where
  | checkout (borrower item : Nat) (overriding : Bool)
  | returnItem (item : Nat)
  | renew (borrower item : Nat) (overriding : Bool)
  | borrowerQuery (borrower : Nat)
  | loansList (borrower start : Nat)
  | finePay (borrower amount : Nat)
  | borrowerAdd (borrower category : Nat)
  | itemFlagSet (item : Nat) (flag : ItemFlag) (set : Bool)
  | policyLoad (contents : SectionContents)
  | borrowerLoad (todo : List BorrowerLoadRecord) (done : List RecordReport)
  | itemFlagsLoad (todo : List ItemLoadRecord) (done : List RecordReport)
  | loanLoad (todo : List LoanLoadRecord) (done : List RecordReport)
  | markAll (cursor marked : Nat)
  | purgeMarked (cursor removed withdrawn : Nat)
  | clearLoans (phase cursor removed corrected : Nat)
  | clearItems (cursor removed : Nat)
  | rebuildBorrowers (phase cursor removed inserted unplaced : Nat)
  deriving DecidableEq, Repr

end Sys2Proof.Machine
end

