-- ==== Sys2Proof/Config.lean ====
section
/-! DEFINITION. The values the manual leaves open for the part: uninterpreted constants, with no body, so that every
claim holds whatever they are. R43: "It is computed over every field of the record except the check itself, the key
included, in a fixed encoding of the part." Which encoding is not stated, and the checks of the three maps "are kept
within the part and are not delivered to a master". (log 5, DESIGN CHOICE, safe) -/

namespace Sys2Proof

/-- The part's fixed encoding of a borrower record (R43; free value, log 5). -/
opaque Config.borrowerEncoding : Machine.BorrowerRecord → List Byte

/-- The part's fixed encoding of a loan record (R43; free value, log 5). -/
opaque Config.loanEncoding : Machine.LoanRecord → List Byte

/-- The part's fixed encoding of an exception entry (R43; free value, log 5). -/
opaque Config.exceptionEncoding : Machine.ExceptionRecord → List Byte

end Sys2Proof
end

