-- ==== Sys2Proof/Machine/Bytes.lean ====
section
/-! DEFINITION. Bytes and frames: multi-byte values (R167), the CRC-16 and the frame (R159), the frame receiver
(R159), request and reply codes (R162, R167), the result fields of a reply (R167, R168). -/

namespace Sys2Proof.Machine

/-! ## Multi-byte values -/

/-- A byte with the value `n` modulo 256. -/
def byte (n : Nat) : Byte := BitVec.ofNat 8 n

/-- `n` in `k` bytes, most significant byte first (R167). -/
def bytesOf : Nat → Nat → List Byte
  | 0, _ => []
  | k + 1, n => byte (n / 256 ^ k) :: bytesOf k n

/-- The unsigned value of bytes, most significant byte first (R167). -/
def valueOf (bs : List Byte) : Nat :=
  bs.foldl (fun v b => v * 256 + b.toNat) 0

/-- The signed two's-complement value of four bytes (the BORROWER_LOAD delta, R167). -/
def signedValueOf (bs : List Byte) : Int :=
  (BitVec.ofNat 32 (valueOf bs)).toInt

/-! ## CRC-16 -/

/-- One bit of the CRC with polynomial 0x1021, not reflected (R159). -/
def crcBit (c : Check) : Check :=
  if c.msb then (c <<< 1) ^^^ 0x1021#16 else c <<< 1

/-- One byte of the CRC. -/
def crcByte (c : Check) (b : Byte) : Check :=
  crcBit (crcBit (crcBit (crcBit (crcBit (crcBit (crcBit (crcBit (c ^^^ (b.setWidth 16 <<< 8)))))))))

/-- The CRC-16 of bytes in the order sent: initial value 0xFFFF, no final inversion (R159). -/
def crc16 (bs : List Byte) : Check :=
  bs.foldl crcByte 0xFFFF#16

/-! ## Codes -/

/-- The number of a request code: 1 to 31 in the order of R162's table. -/
def ReqCode.number (c : ReqCode) : Nat := c.ctorIdx + 1

/-- Every request code, in order. -/
def ReqCode.all : List ReqCode :=
  [.scanTake, .checkout, .returnItem, .renew, .borrowerQuery, .loansList, .slipCut, .printerResume, .unbind,
   .noticeTake, .status, .finePay, .borrowerAdd, .itemFlagSet, .policyLoad, .dateSet, .deskOpen, .deskClose,
   .journalArm, .journalFetch, .journalRelease, .journalRewind, .borrowerLoad, .itemFlagsLoad, .markAll,
   .purgeMarked, .tableClear, .tableRebuild, .loanLoad, .nightEnter, .nightLeave]

/-- The code byte of a frame that carries the request. -/
def ReqCode.byte (c : ReqCode) : Byte := Machine.byte c.number

/-- The request a code byte names, if it names one (R161 step 2). -/
def ReqCode.ofByte (b : Byte) : Option ReqCode :=
  ReqCode.all.find? (fun c => c.number == b.toNat)

/-- The number of a reply code (R167). -/
def ReplyCode.number (c : ReplyCode) : Nat := c.ctorIdx

/-- The reply-flag byte (R167). -/
def ReplyFlags.byte (f : ReplyFlags) : Byte :=
  Machine.byte (f.clamped.toNat * 0x01 + f.stale.toNat * 0x02 + f.holdRoute.toNat * 0x04
    + f.implicitReturn.toNat * 0x08 + f.slipLost.toNat * 0x10)

/-! ## Result fields -/

/-- The bytes of a result field (R167, R168; widths the rules leave open: log 14). -/
def Field.bytes : Field → List Byte
  | .ident n => bytesOf 5 n
  | .day n => bytesOf 2 n
  | .time n => bytesOf 4 n
  | .seq q => bytesOf 4 q.toNat
  | .count n => bytesOf 4 n
  | .money n => bytesOf 4 n
  | .cents n => bytesOf 2 n
  | .small n => bytesOf 1 n
  | .flag b => bytesOf 1 b.toNat
  | .raw bs => bs

/-- A field that may be absent: a presence byte, then the field, sent as 0 when absent (R168). -/
def optField (f : Nat → Field) (x : Option Nat) : List Field :=
  [.flag x.isSome, f (x.getD 0)]

/-- A label report, 11 bytes (R167). -/
def LabelReport.bytes (r : LabelReport) : List Byte :=
  bytesOf 1 r.kind.ctorIdx ++ bytesOf 5 r.number ++ bytesOf 1 r.direction.ctorIdx ++ bytesOf 4 r.time

/-- The slip status of a reply, 2 bytes (R168). -/
def SlipStatus.bytes : SlipStatus → List Byte
  | .none => bytesOf 1 0 ++ bytesOf 1 0
  | .queued => bytesOf 1 1 ++ bytesOf 1 0
  | .spoolFullLost => bytesOf 1 2 ++ bytesOf 1 0
  | .printerState st => bytesOf 1 3 ++ bytesOf 1 st.ctorIdx

/-- The slip status as a result field. -/
def SlipStatus.field (st : SlipStatus) : Field := .raw st.bytes

/-! ## Frames -/

/-- SYNC (R159). -/
def syncByte : Byte := 0xC3#8

/-- The longest payload (R159). -/
def maxPayload : Nat := 1024

/-- The bytes of a frame (R159, section 11.8). -/
def frameBytes (tag code : Byte) (payload : List Byte) : List Byte :=
  let body := bytesOf 2 payload.length ++ [tag, code] ++ payload
  syncByte :: body ++ bytesOf 2 (crc16 body).toNat

/-- A reply's payload: the request code, the reply-flag byte, the results (R167). -/
def OutFrame.payload (f : OutFrame) : List Byte :=
  f.request :: f.flags.byte :: (f.results.flatMap Field.bytes)

/-- The bytes of a frame the part sends. -/
def OutFrame.bytes (f : OutFrame) : List Byte :=
  frameBytes f.tag (byte f.code.number) f.payload

/-! ## The frame receiver -/

/-- The receiver takes one byte (R159): HUNT discards all but SYNC; COLLECTING judges the length at its second byte
and the CRC at the last byte. -/
def Receiver.feed : Receiver → Byte → Receiver × Option RxEvent
  | .hunt, b => if b = syncByte then (.collecting [], none) else (.hunt, none)
  | .collecting got, b =>
    let got := got ++ [b]
    let len := valueOf (got.take 2)
    if got.length = 2 ∧ maxPayload < len then (.hunt, some .bad)
    else if 2 ≤ got.length ∧ got.length = len + 6 then
      let body := got.take (len + 4)
      if (crc16 body).toNat = valueOf (got.drop (len + 4)) then
        (.hunt, some (.good (body.getD 2 0) (body.getD 3 0) (body.drop 4)))
      else (.hunt, some .bad)
    else (.collecting got, none)

/-- The receiver takes bytes in turn; the events it finds, in order. -/
def Receiver.run : Receiver → List Byte → Receiver × List RxEvent
  | r, [] => (r, [])
  | r, b :: bs =>
    let (r1, e) := r.feed b
    let (r2, es) := r1.run bs
    (r2, e.toList ++ es)

end Sys2Proof.Machine
end

