-- ==== Sys2Proof/Machine/Checks.lean ====
section
/-! DEFINITION. Record checks (R43): the three maps over the part's own encoding, a journal entry over its 32-byte
layout, offsets 0 to 29 (R167), a policy section over its contents as R168 lays them out. -/

namespace Sys2Proof.Machine

/-- The record check of a borrower record (R43). -/
def borrowerCheck (r : BorrowerRecord) : Check := crc16 (Config.borrowerEncoding r)

/-- The record check of a loan record (R43). -/
def loanCheck (r : LoanRecord) : Check := crc16 (Config.loanEncoding r)

/-- The record check of an exception entry (R43). -/
def exceptionCheck (r : ExceptionRecord) : Check := crc16 (Config.exceptionEncoding r)

/-! ## Journal entries -/

/-- The flags byte of a journal entry without DAMAGED (R167). -/
def EntryFlags.value (f : EntryFlags) : Nat :=
  f.override.toNat * 0x01 + f.isImplicit.toNat * 0x02 + f.saturated.toNat * 0x04 + f.holdFilled.toNat * 0x08

/-- The presence byte of a journal entry (R167). -/
def EntryDraft.presence (e : EntryDraft) : Nat :=
  e.borrower.isSome.toNat * 0x01 + e.item.isSome.toNat * 0x02 + e.dueDay.isSome.toNat * 0x04
    + e.amount.isSome.toNat * 0x08

/-- Offsets 0 to 29 of a journal entry, with the given sequence and DAMAGED bit (R167). -/
def EntryDraft.layout (e : EntryDraft) (sequence : Seq) (damaged : Bool) : List Byte :=
  bytesOf 4 sequence.toNat ++ bytesOf 1 e.kind.ctorIdx ++ bytesOf 1 e.source.ctorIdx ++ bytesOf 2 e.day
    ++ bytesOf 4 e.time ++ bytesOf 1 (e.flags.value + damaged.toNat * 0x10) ++ bytesOf 1 e.presence
    ++ bytesOf 5 (e.borrower.getD 0) ++ bytesOf 5 (e.item.getD 0) ++ bytesOf 2 (e.dueDay.getD 0)
    ++ bytesOf 4 (e.amount.getD 0)

/-- The record check of an entry: over the sequence held in the entry, with the DAMAGED bit clear (R43, R121). -/
def entryCheck (e : EntryDraft) (sequence : Seq) : Check := crc16 (e.layout sequence false)

/-! ## Policy sections -/

/-- The number of an on/off setting: ON 0, OFF 1, in the order "ON, OFF" of R16 (R144, R167; log 16). -/
def onOffNumber (b : Bool) : Nat := if b then 0 else 1

/-- One desk's terms as R168 lays them out. -/
def DeskTerms.bytes (t : DeskTerms) : List Byte :=
  bytesOf 1 t.wandMode.ctorIdx ++ bytesOf 2 t.doubleScan ++ bytesOf 1 (onOffNumber t.autoBind)
    ++ bytesOf 1 (onOffNumber t.unbindOnLeave) ++ bytesOf 2 t.idleTime ++ bytesOf 1 t.overflow.ctorIdx
    ++ bytesOf 1 t.defaultClass ++ bytesOf 1 t.gatherTime ++ bytesOf 1 t.waitLimit
    ++ bytesOf 1 t.branchName.length ++ t.branchName

/-- Byte k of the closed-day set: mark i stands in byte i / 8 at the bit of value 2 ^ (i % 8) (R168). -/
def closedByte (marks : BitVec 512) (k : Nat) : Byte := marks.extractLsb' (8 * k) 8

/-- The contents of a section as R168 lays them out for POLICY_LOAD. -/
def SectionContents.bytes : SectionContents → List Byte
  | .matrix cells => cells.flatMap fun c => bytesOf 2 c.period ++ bytesOf 1 c.renewalLimit
  | .classTerms ts => ts.flatMap fun t => bytesOf 1 t.grace ++ bytesOf 2 t.rate ++ bytesOf 2 t.cap
  | .categoryTerms ts => ts.flatMap fun t =>
      bytesOf 1 t.loanLimit ++ bytesOf 4 t.fineLimit ++ bytesOf 2 t.overdueBlock ++ bytesOf 1 t.provisionalDays
  | .deskTerms d => d.console.bytes ++ d.kiosk.bytes ++ bytesOf 4 d.opening ++ bytesOf 4 d.closing
      ++ bytesOf 1 d.levelConsole ++ bytesOf 1 d.levelKiosk ++ bytesOf 1 d.levelSweep ++ bytesOf 1 d.levelUplink
  | .calendar c => bytesOf 2 c.year ++ bytesOf 1 c.month ++ bytesOf 1 c.day ++ bytesOf 1 c.weekday0
      ++ bytesOf 1 c.closedMask.toNat ++ bytesOf 2 c.base ++ (List.range 64).map (closedByte c.closedDays)
  | .classRanges rs => bytesOf 1 rs.length ++ rs.flatMap fun r =>
      bytesOf 5 r.low ++ bytesOf 5 r.high ++ bytesOf 1 r.itemClass

/-- The contents of one section of the policy. -/
def PolicyData.contents (p : PolicyData) : PolicySection → SectionContents
  | .matrix => .matrix p.matrix
  | .classTerms => .classTerms p.classTerms
  | .categoryTerms => .categoryTerms p.categoryTerms
  | .deskTerms => .deskTerms p.desks
  | .calendar => .calendar p.calendar
  | .classRanges => .classRanges p.ranges

/-- The section check of a section of the policy: the CRC-16 of its contents (R43, R48). -/
def sectionCheck (p : PolicyData) (k : PolicySection) : Check := crc16 (p.contents k).bytes

end Sys2Proof.Machine
end

