-- ==== Sys2Proof/Machine/Defaults.lean ====
section
/-! DEFINITION. What a start-up after retention loss writes into the retained state (R154): the default policy
sections (R41, R57, R60, R105, R145, R146) and the journal's RESTART entry (R131). -/

namespace Sys2Proof.Machine

/-- Character codes of a text. -/
def charCodes (cs : List Char) : List Byte := cs.map fun c => byte c.toNat

/-- The Console desk's default terms (R146, R105, R16). -/
def defaultConsoleTerms : DeskTerms where
  wandMode := .on
  doubleScan := 1500
  autoBind := true
  unbindOnLeave := false
  idleTime := 300
  overflow := .keepOldest
  defaultClass := 0
  gatherTime := 20
  waitLimit := 32
  branchName := charCodes ['L', 'O', 'A', 'N', ' ', 'D', 'E', 'S', 'K']

/-- The Kiosk desk's default terms (R146, R105, R16). -/
def defaultKioskTerms : DeskTerms where
  wandMode := .presenceHold
  doubleScan := 1500
  autoBind := true
  unbindOnLeave := true
  idleTime := 60
  overflow := .keepOldest
  defaultClass := 0
  gatherTime := 20
  waitLimit := 32
  branchName := charCodes ['S', 'E', 'L', 'F', ' ', 'S', 'E', 'R', 'V', 'I', 'C', 'E']

/-- The default desk terms section (R146, R56, R89). -/
def defaultDesks : DeskSection where
  console := defaultConsoleTerms
  kiosk := defaultKioskTerms
  opening := 32400
  closing := 72000
  levelConsole := 2
  levelKiosk := 3
  levelSweep := 4
  levelUplink := 5

/-- The default calendar (R57). -/
def defaultCalendar : Calendar where
  year := 2000
  month := 1
  day := 1
  weekday0 := 5
  closedMask := 0
  base := 0
  closedDays := 0

/-- The default policy sections (R145, R60, R41). -/
def defaultPolicyData : PolicyData where
  matrix := List.replicate 128 { period := 21, renewalLimit := 2 }
  classTerms := List.replicate 16 { grace := 0, rate := 0, cap := 0 }
  categoryTerms := List.replicate 8 { loanLimit := 10, fineLimit := 0, overdueBlock := 0, provisionalDays := 30 }
  desks := defaultDesks
  calendar := defaultCalendar
  ranges := []

/-- The section checks of a policy (R48). -/
def sectionChecks (p : PolicyData) : BySection Check where
  matrix := sectionCheck p .matrix
  classTerms := sectionCheck p .classTerms
  categoryTerms := sectionCheck p .categoryTerms
  deskTerms := sectionCheck p .deskTerms
  calendar := sectionCheck p .calendar
  classRanges := sectionCheck p .classRanges

/-- The sum of six section checks modulo 2^32 (R48). -/
def sectionSum (c : BySection Check) : CheckSum :=
  c.matrix.setWidth 32 + c.classTerms.setWidth 32 + c.categoryTerms.setWidth 32 + c.deskTerms.setWidth 32
    + c.calendar.setWidth 32 + c.classRanges.setWidth 32

/-- The Policy Store after retention loss: defaults, SOUND, all six reloaded marks set (R49, R154). -/
def defaultPolicy : PolicyStore where
  data := defaultPolicyData
  checks := sectionChecks defaultPolicyData
  sum := sectionSum (sectionChecks defaultPolicyData)
  health := .sound
  reloaded := ⟨true, true, true, true, true, true⟩

/-- The fields of the RESTART entry (R131). -/
def restartDraft : EntryDraft where
  kind := .restart
  day := 0
  time := 0
  source := .part

end Sys2Proof.Machine
end

