-- ==== Sys2Proof/Machine/State.lean ====
section
/-! DEFINITION. The whole state of the part as plain data, the outcome types, and the state right after start-up with
retention lost. INVENTORY.md, "State", names the rule behind every field. -/

namespace Sys2Proof.Machine

/-- A wand decoder (R2, R3, R10 to R12). -/
structure Wand where
  line : LineLevel
  lastTransition : Stamp
  phase : ScanPhase
  elements : List Nat
  count : Nat
  state : WandState
  hold : Option Nat
  lastAccepted : Option (LabelKind × Nat)
  doubleScan : Nat
  deriving DecidableEq, Repr

/-- A bound borrower and the bind time, present together (R16). -/
structure Binding where
  borrower : Nat
  time : Nat
  deriving DecidableEq, Repr

/-- A desk context (R16), with the gather timer of its open slip (R108). Timers are `none` when stopped, and hold the
seconds remaining when running. -/
structure DeskContext where
  bound : Option Binding
  idle : Option Nat
  presence : Presence
  queue : List LabelReport
  lastTaken : Option LabelReport
  openSlip : Option OpenSlip
  gather : Option Nat
  overflow : Bool
  readEmpty : Bool
  deriving DecidableEq, Repr

/-- A Slip Spooler and its printer (R109, R112 to R114). The wait and gap timers hold the milliseconds remaining.
`strobed` tells the two waits of R114 apart. `dataLines` is the character last placed since the lines were driven; it is
absent in OFF, where they are not, and until the first character after it (log 23). -/
structure Spooler where
  spool : List Slip
  state : PrinterState
  text : List (List Byte)
  posLine : Nat
  posChar : Nat
  strobed : Bool
  waitTimer : Option Nat
  gapTimer : Option Nat
  dataLines : Option Byte
  deriving DecidableEq, Repr

/-- The input lines of a desk's peripherals (00_scope). -/
structure DeskLines where
  wand : LineLevel
  presence : Presence
  busy : Bool
  paperOut : Bool
  deriving DecidableEq, Repr

/-- Everything of one desk. -/
structure DeskSide where
  wand : Wand
  ctx : DeskContext
  spooler : Spooler
  lines : DeskLines
  deriving DecidableEq, Repr

/-- A port's in-flight request (R161). `op` is present from acceptance until its reply is made ready; `started` says
that a burst's first step has been granted (R95); `label` is the report of an item resolved "from wand" (R25);
`discard` says that a port break has cut off its reply (R163). -/
structure InFlight where
  tag : Byte
  code : ReqCode
  op : Option EngineOp
  started : Bool
  label : Option LabelReport
  discard : Bool
  deriving DecidableEq, Repr

/-- A port (R159 to R164). `sent` counts the bytes of the head frame already clocked out and `transfer` holds the bytes
clocked out in the last transfer; both are used by the Console port alone (R160, log 9). -/
structure PortState where
  rx : Receiver
  inFlight : Option InFlight
  outQ : List OutFrame
  sent : Nat
  notices : List Notice
  frameErrors : Nat
  overflow : Bool
  transfer : List Byte
  deriving DecidableEq, Repr

/-- What the checks of a CHECKOUT's grant found (R69 to R71). -/
structure CheckoutPlan where
  borrower : Nat
  item : Nat
  itemClass : Nat
  dueDay : Nat
  bypassed : Bool
  clearHold : Bool
  clearMissing : Bool
  isImplicit : Bool
  deriving DecidableEq, Repr

/-- What the checks of a RENEW's grant found (R77). -/
structure RenewPlan where
  borrower : Nat
  item : Nat
  newDue : Nat
  bypassed : Bool
  deriving DecidableEq, Repr

/-- What a grant's checks found, kept to the commit. -/
inductive Plan where
  | checkout (p : CheckoutPlan)
  | renew (p : RenewPlan)
  | plain
  deriving DecidableEq, Repr

/-- An operation or step being served: its requester, the samples of its grant (R94) and its plan. -/
structure Serving where
  who : Requester
  day : Nat
  time : Nat
  policy : PolicyData
  plan : Plan
  deriving DecidableEq, Repr

/-- The Table Engine (R90, R91, R93): FREE when `serving` is `none`. -/
structure Engine where
  serving : Option Serving
  waiting : ByRequester Bool
  yields : ByRequester (ByRequester Bool)
  deriving DecidableEq, Repr

/-- The Day Sweep (section 6.6). -/
structure Sweep where
  state : PassState
  cursor : Nat
  firstBatch : Bool
  deriving DecidableEq, Repr

/-- One value for each checked table. -/
structure ByTable (α : Type) where
  borrowers : α
  loans : α
  items : α
  policy : α
  deriving DecidableEq, Repr

/-- The Scrubber (section 10.6). -/
structure Scrub where
  table : TableId
  cursor : Nat
  passSum : CheckSum
  disturbed : ByTable Bool
  passes : Nat
  deriving DecidableEq, Repr

/-- The Journal (R122, R124, R127). The window is armed exactly while its count is above 0 (R127). -/
structure Journal where
  entries : List JournalEntry
  head : Seq
  cursor : Seq
  tail : Seq
  window : Nat
  waitingDates : List DateEntry
  deriving DecidableEq, Repr

/-- The clock (R50). `fraction` counts the milliseconds of the current second, `phase` those of the second timers
(log 2; their values at reset: log 34). -/
structure Clock where
  today : Nat
  time : Nat
  dateUnset : Bool
  sweepPending : Bool
  sweepRepeat : Bool
  fraction : Nat
  phase : Nat
  deriving DecidableEq, Repr

/-- How far a start-up with retention intact has come: how many of the four comparisons it has made, and the tables that
it made SUSPECT (R153). -/
structure StartUp where
  compared : Nat
  found : List TableId
  deriving DecidableEq, Repr

/-- A start-up that has compared nothing; so also wherever no start-up is going on. -/
def StartUp.start : StartUp := { compared := 0, found := [] }

/-- The Part State Controller (section 10.1), with the supply and reset lines. -/
structure Control where
  part : PartState
  latch : Bool
  startKind : StartKind
  openingPending : Bool
  drainTimer : Option Nat
  drainEnded : Bool
  batteryLow : Bool
  batteryTimer : Option Nat
  supplyValid : Bool
  resetAsserted : Bool
  startUp : StartUp
  deriving DecidableEq, Repr

/-- The clear-on-read copies kept for the ports entitled to them (R14, R104, R120, R124). -/
structure Shares where
  wandAConsole : WandCounters
  wandBKiosk : WandCounters
  wandBConsole : WandCounters
  lostAConsole : Nat
  lostBKiosk : Nat
  lostBConsole : Nat
  dayMarkConsole : Nat
  dayMarkUplink : Nat
  dateEntryConsole : Nat
  dateEntryUplink : Nat
  deriving DecidableEq, Repr

/-- The state of the part and the queue of waiting commands. `loanLists` gives, in ascending borrower number, each
borrower's items in list order (R39). -/
structure State where
  control : Control
  clock : Clock
  policy : PolicyStore
  borrowers : Table BorrowerRecord
  loans : Table LoanRecord
  loanLists : List (Nat × List Nat)
  items : Table ExceptionRecord
  engine : Engine
  sweep : Sweep
  scrub : Scrub
  journal : Journal
  console : DeskSide
  kiosk : DeskSide
  consolePort : PortState
  kioskPort : PortState
  uplinkPort : PortState
  shares : Shares
  pending : List Instr
  deriving DecidableEq, Repr

/-- Faults: none. The manual names no condition that stops the part, and the model adds none; nothing raises one. -/
inductive Fault where
  deriving DecidableEq, Repr

/-- Refusals. -/
inductive Refusal where
  /-- The host's rejection of a command that has no meaning yet. No arm raises it: every command is modelled. Safe. -/
  | notModelled (mnemonic : String)
  deriving DecidableEq, Repr

/-! ## Start-up values -/

/-- A wand's values at each start-up (R15; the two values R15 does not list: log 23). -/
def Wand.start : Wand where
  line := .light
  lastTransition := 0
  phase := .quietWait
  elements := []
  count := 0
  state := .off
  hold := none
  lastAccepted := none
  doubleScan := 65535

/-- A desk context's values at each start-up, before the presence state is sampled (R29). -/
def DeskContext.start : DeskContext where
  bound := none
  idle := none
  presence := .released
  queue := []
  lastTaken := none
  openSlip := none
  gather := none
  overflow := false
  readEmpty := false

/-- A spooler's values at each start-up (R119). -/
def Spooler.start : Spooler where
  spool := []
  state := .off
  text := []
  posLine := 0
  posChar := 0
  strobed := false
  waitTimer := none
  gapTimer := none
  dataLines := none

/-- A port's values at each start-up, before the start-up notices (R169). -/
def PortState.start : PortState where
  rx := .hunt
  inFlight := none
  outQ := []
  sent := 0
  notices := []
  frameErrors := 0
  overflow := false
  transfer := []

/-- The empty set of requesters. -/
def noRequester : ByRequester Bool := ⟨false, false, false, false, false⟩

/-- The engine's values at each start-up (R97). -/
def Engine.start : Engine where
  serving := none
  waiting := noRequester
  yields := ⟨noRequester, noRequester, noRequester, noRequester, noRequester⟩

/-- The Day Sweep's values at each start-up (R104). -/
def Sweep.start : Sweep := { state := .idle, cursor := 0, firstBatch := false }

/-- The Scrubber's values at each start-up (R158). -/
def Scrub.start : Scrub where
  table := .borrowers
  cursor := 0
  passSum := 0
  disturbed := ⟨false, false, false, false⟩
  passes := 0

/-- A port's copy of a wand's counters at each start-up (R15). -/
def WandCounters.start : WandCounters := { goodRead := 0, misread := 0, duplicate := 0, lastMisread := none }

/-- The clear-on-read copies at each start-up (R15, R104, R119, R131). -/
def Shares.start : Shares where
  wandAConsole := WandCounters.start
  wandBKiosk := WandCounters.start
  wandBConsole := WandCounters.start
  lostAConsole := 0
  lostBKiosk := 0
  lostBConsole := 0
  dayMarkConsole := 0
  dayMarkUplink := 0
  dateEntryConsole := 0
  dateEntryUplink := 0

/-- A desk's input lines at reset (log 4). -/
def DeskLines.atReset : DeskLines := { wand := .light, presence := .released, busy := false, paperOut := false }

/-- A desk right after a start-up that enters NIGHT. -/
def DeskSide.atReset : DeskSide where
  wand := Wand.start
  ctx := DeskContext.start
  spooler := Spooler.start
  lines := DeskLines.atReset

/-- A port right after start-up with retention lost: PART_STATE alone has been placed (R154). -/
def PortState.atReset : PortState := { PortState.start with notices := [.partState .night] }

/-- The state right after start-up with retention lost, the battery good and the lines as log 4 says (R154; log 3):
NIGHT, empty tables, default policy, the RESTART entry, the date unset, and the Scrubber's first step granted. -/
def State.reset : State where
  control :=
    { part := .night, latch := true, startKind := .lost, openingPending := false, drainTimer := none,
      drainEnded := false, batteryLow := false, batteryTimer := some 60, supplyValid := true, resetAsserted := false,
      startUp := StartUp.start }
  clock :=
    { today := 0, time := 0, dateUnset := true, sweepPending := false, sweepRepeat := false, fraction := 0, phase := 0 }
  policy := defaultPolicy
  borrowers := { entries := [], sum := 0, health := .sound }
  loans := { entries := [], sum := 0, health := .sound }
  loanLists := []
  items := { entries := [], sum := 0, health := .sound }
  engine :=
    { Engine.start with
      serving := some { who := .scrubber, day := 0, time := 0, policy := defaultPolicyData, plan := .plain } }
  sweep := Sweep.start
  scrub := Scrub.start
  journal :=
    { entries := [{ sequence := 1, fields := restartDraft, check := entryCheck restartDraft 1 }],
      head := 1, cursor := 1, tail := 2, window := 0, waitingDates := [] }
  console := DeskSide.atReset
  kiosk := DeskSide.atReset
  consolePort := PortState.atReset
  kioskPort := PortState.atReset
  uplinkPort := PortState.atReset
  shares := Shares.start
  pending := []

end Sys2Proof.Machine
end

