-- ==== Sys2Proof/Machine/Ops.lean ====
section
/-! DEFINITION. The named operations over the state: desks and ports, saturating counters, notices (R164), answers and
replies (R160, R161), the keyed tables with their slots, checks, sums and loan lists (R30, R31, R39, R43, R44), healths
(R46), the engine's sets (R90, R93) and the journal's appends and levels (R123, R125). -/

namespace Sys2Proof.Machine

/-! ## Desks and ports -/

/-- The port of a desk (00_scope, Terms). -/
def deskPort : Desk → Port
  | .console => .console
  | .kiosk => .kiosk

/-- The desk of a port; the Uplink port has none (R16). -/
def portDesk : Port → Option Desk
  | .console => some .console
  | .kiosk => some .kiosk
  | .uplink => none

/-- The requester a port is at the engine (R89). -/
def portRequester : Port → Requester
  | .console => .console
  | .kiosk => .kiosk
  | .uplink => .uplink

/-- The port behind a requester, if it is one. -/
def requesterPort : Requester → Option Port
  | .console => some .console
  | .kiosk => some .kiosk
  | .uplink => some .uplink
  | .sweep => none
  | .scrubber => none

/-- The journal source of a desk (R86). -/
def deskSource : Desk → EntrySource
  | .console => .console
  | .kiosk => .kiosk

/-- A desk's state. -/
def State.desk (s : State) : Desk → DeskSide
  | .console => s.console
  | .kiosk => s.kiosk

/-- Change a desk's state. -/
def State.modDesk (s : State) (d : Desk) (f : DeskSide → DeskSide) : State :=
  match d with
  | .console => { s with console := f s.console }
  | .kiosk => { s with kiosk := f s.kiosk }

/-- Change a desk's wand decoder. -/
def State.modWand (s : State) (d : Desk) (f : Wand → Wand) : State :=
  s.modDesk d fun x => { x with wand := f x.wand }

/-- Change a desk's context. -/
def State.modCtx (s : State) (d : Desk) (f : DeskContext → DeskContext) : State :=
  s.modDesk d fun x => { x with ctx := f x.ctx }

/-- Change a desk's spooler. -/
def State.modSpooler (s : State) (d : Desk) (f : Spooler → Spooler) : State :=
  s.modDesk d fun x => { x with spooler := f x.spooler }

/-- Change a desk's input lines. -/
def State.modLines (s : State) (d : Desk) (f : DeskLines → DeskLines) : State :=
  s.modDesk d fun x => { x with lines := f x.lines }

/-- A port's state. -/
def State.port (s : State) : Port → PortState
  | .console => s.consolePort
  | .kiosk => s.kioskPort
  | .uplink => s.uplinkPort

/-- Change a port's state. -/
def State.modPort (s : State) (p : Port) (f : PortState → PortState) : State :=
  match p with
  | .console => { s with consolePort := f s.consolePort }
  | .kiosk => { s with kioskPort := f s.kioskPort }
  | .uplink => { s with uplinkPort := f s.uplinkPort }

/-- The terms of a desk in a desk terms section. -/
def DeskSection.terms (t : DeskSection) : Desk → DeskTerms
  | .console => t.console
  | .kiosk => t.kiosk

/-- A desk's terms as the policy now holds them, whatever the policy's health (R16, R89). -/
def State.terms (s : State) (d : Desk) : DeskTerms := s.policy.data.desks.terms d

/-- The part state is OPEN, CLOSING or NIGHT. -/
def PartState.running : PartState → Bool
  | .open | .closing | .night => true
  | .starting | .retaining => false

/-- The part state is OPEN or CLOSING. -/
def PartState.desksServe : PartState → Bool
  | .open | .closing => true
  | .starting | .night | .retaining => false

/-! ## Counters -/

/-- A 16-bit counter raised by `k`, saturating at 65,535. -/
def satAdd (n k : Nat) : Nat := min (n + k) 65535

/-- Change every copy kept of a wand's counters (R14). -/
def State.modWandCopies (s : State) (d : Desk) (f : WandCounters → WandCounters) : State :=
  match d with
  | .console => { s with shares := { s.shares with wandAConsole := f s.shares.wandAConsole } }
  | .kiosk =>
    { s with
      shares :=
        { s.shares with wandBKiosk := f s.shares.wandBKiosk, wandBConsole := f s.shares.wandBConsole } }

/-- Raise every copy of a spooler's lost-slip counter (R109, R120). -/
def State.addLostSlips (s : State) (d : Desk) (k : Nat) : State :=
  match d with
  | .console => { s with shares := { s.shares with lostAConsole := satAdd s.shares.lostAConsole k } }
  | .kiosk =>
    { s with
      shares :=
        { s.shares with
          lostBKiosk := satAdd s.shares.lostBKiosk k, lostBConsole := satAdd s.shares.lostBConsole k } }

/-- Raise both copies of the day-mark-lost counter (R99). -/
def State.addDayMarkLost (s : State) : State :=
  { s with
    shares :=
      { s.shares with
        dayMarkConsole := satAdd s.shares.dayMarkConsole 1, dayMarkUplink := satAdd s.shares.dayMarkUplink 1 } }

/-- Raise both copies of the date-entry-lost counter (R124). -/
def State.addDateEntryLost (s : State) : State :=
  { s with
    shares :=
      { s.shares with
        dateEntryConsole := satAdd s.shares.dateEntryConsole 1
        dateEntryUplink := satAdd s.shares.dateEntryUplink 1 } }

/-! ## Notices -/

/-- The capacity of a notice queue (R164). -/
def noticeCapacity : Nat := 8

/-- A notice placed in a queue: appended, or discarded with the sticky overflow flag set (R164). -/
def PortState.place (q : PortState) (n : Notice) : PortState :=
  if q.notices.length < noticeCapacity then { q with notices := q.notices ++ [n] } else { q with overflow := true }

/-- Place a notice at one port. -/
def State.notify (s : State) (p : Port) (n : Notice) : State := s.modPort p (·.place n)

/-- Place a notice at the Console and Uplink ports (R165). -/
def State.notifyConsoleUplink (s : State) (n : Notice) : State := (s.notify .console n).notify .uplink n

/-- Place a notice at all three ports (R165). -/
def State.notifyAll (s : State) (n : Notice) : State := ((s.notify .console n).notify .kiosk n).notify .uplink n

/-! ## Answers and replies -/

/-- The most answers an output queue holds (R160). -/
def answerCapacity : Nat := 4

/-- An answer made ready: discarded while the output queue already holds 4 answers (R160). -/
def State.answer (s : State) (p : Port) (tag request : Byte) (code : ReplyCode) : State :=
  s.modPort p fun q =>
    if (q.outQ.filter fun f => !f.isReply).length < answerCapacity then
      { q with outQ := q.outQ ++ [{ tag, code, request, flags := {}, results := [], isReply := false }] }
    else q

/-- The label report a reply carries last, when its request resolved an item "from wand" (R25, R88). It has no presence byte,
and the reply of a request that gave its item by number has no bytes for it (log 15). -/
def labelField (l : Option LabelReport) : List Field :=
  match l with
  | some r => [.raw r.bytes]
  | none => []

/-- The reply of the port's in-flight request made ready (R161), or discarded after a port break, the request then
leaving flight (R163). -/
def State.reply (s : State) (p : Port) (code : ReplyCode) (flags : ReplyFlags) (results : List Field) : State :=
  s.modPort p fun q =>
    match q.inFlight with
    | none => q
    | some fl =>
      if fl.discard then { q with inFlight := none }
      else
        { q with
          inFlight := some { fl with op := none }
          outQ := q.outQ ++
            [{ tag := fl.tag, code, request := fl.code.byte, flags, results := results ++ labelField fl.label,
               isReply := true }] }

/-- A refusal's reply: its code and the values named with it. -/
def State.refuse (s : State) (p : Port) (code : ReplyCode) (values : List Field) : State := s.reply p code {} values

/-- The operation of a port's in-flight request, while it is at the engine. -/
def State.portOp (s : State) (p : Port) : Option EngineOp := (s.port p).inFlight.bind (·.op)

/-- Replace the operation (with its progress) of a port's in-flight request. -/
def State.setOp (s : State) (p : Port) (op : EngineOp) : State :=
  s.modPort p fun q => { q with inFlight := q.inFlight.map fun fl => { fl with op := some op } }

/-! ## Keyed tables -/

/-- The capacities (R30). -/
def borrowerCapacity : Nat := 6144
def loanCapacity : Nat := 12288
def itemCapacity : Nat := 2048

/-- The entry under a key (R30). -/
def Table.entry? {ρ : Type} (t : Table ρ) (key : ρ → Nat) (k : Nat) : Option (Entry ρ) :=
  t.entries.find? fun e => key e.rcd == k

/-- The lowest slot from `n` up that no entry of a list in ascending slot order takes (R31). -/
def lowestFreeFrom {ρ : Type} : Nat → List (Entry ρ) → Nat
  | n, [] => n
  | n, e :: es => if e.slot = n then lowestFreeFrom (n + 1) es else n

/-- The lowest-numbered slot that is free (R31). -/
def Table.lowestFree {ρ : Type} (t : Table ρ) : Nat := lowestFreeFrom 0 t.entries

/-- An entry put in its place in slot order. -/
def insertEntry {ρ : Type} (e : Entry ρ) : List (Entry ρ) → List (Entry ρ)
  | [] => [e]
  | x :: xs => if e.slot < x.slot then e :: x :: xs else x :: insertEntry e xs

/-- Insert a record in the lowest free slot: its check is added to the sum (R31, R44). -/
def Table.insert {ρ : Type} (t : Table ρ) (check : ρ → Check) (r : ρ) : Table ρ :=
  { t with
    entries := insertEntry { slot := t.lowestFree, rcd := r, check := check r } t.entries
    sum := t.sum + (check r).setWidth 32 }

/-- Replace an entry's record where the key is `k`. -/
def replaceEntries {ρ : Type} (key : ρ → Nat) (k : Nat) (r : ρ) (c : Check) : List (Entry ρ) → List (Entry ρ)
  | [] => []
  | x :: xs => if key x.rcd = k then { x with rcd := r, check := c } :: xs else x :: replaceEntries key k r c xs

/-- Update the record under its key: it keeps its slot, the old stored check leaves the sum and the new check joins it
(R31, R43, R44). Nothing changes where the key is absent. -/
def Table.update {ρ : Type} (t : Table ρ) (key : ρ → Nat) (check : ρ → Check) (r : ρ) : Table ρ :=
  match t.entry? key (key r) with
  | none => t
  | some e =>
    { t with
      entries := replaceEntries key (key r) r (check r) t.entries
      sum := t.sum - e.check.setWidth 32 + (check r).setWidth 32 }

/-- Remove the entry under a key from a list. -/
def removeEntries {ρ : Type} (key : ρ → Nat) (k : Nat) : List (Entry ρ) → List (Entry ρ)
  | [] => []
  | x :: xs => if key x.rcd = k then xs else x :: removeEntries key k xs

/-- Remove the record under a key: its slot becomes free and its stored check leaves the sum (R31, R44). -/
def Table.remove {ρ : Type} (t : Table ρ) (key : ρ → Nat) (k : Nat) : Table ρ :=
  match t.entry? key k with
  | none => t
  | some e => { t with entries := removeEntries key k t.entries, sum := t.sum - e.check.setWidth 32 }

/-- The entries in slots `lo` to `lo + n - 1`, ascending. -/
def Table.slots {ρ : Type} (t : Table ρ) (lo n : Nat) : List (Entry ρ) :=
  t.entries.filter fun e => lo ≤ e.slot && e.slot < lo + n

/-- The sum modulo 2^32 of the stored checks of the occupied slots (R44). -/
def storedSum {ρ : Type} (es : List (Entry ρ)) : CheckSum :=
  es.foldl (fun v e => v + e.check.setWidth 32) 0

/-- The sum modulo 2^32 of the checks computed afresh (R45). -/
def recomputedSum {ρ : Type} (check : ρ → Check) (es : List (Entry ρ)) : CheckSum :=
  es.foldl (fun v e => v + (check e.rcd).setWidth 32) 0

/-! ## Touches, healths and faults -/

/-- A commit that touches a table sets its pass-disturbed mark (R157). -/
def State.touch (s : State) (t : TableId) : State :=
  let m := s.scrub.disturbed
  let m := match t with
    | .borrowers => { m with borrowers := true }
    | .loans => { m with loans := true }
    | .items => { m with items := true }
    | .policy => { m with policy := true }
  { s with scrub := { s.scrub with disturbed := m } }

/-- The health of a table (R46). -/
def State.health (s : State) : TableId → Health
  | .borrowers => s.borrowers.health
  | .loans => s.loans.health
  | .items => s.items.health
  | .policy => s.policy.health

/-- Set the health of a table. The policy's marks are all cleared when it changes from SOUND to SUSPECT (R48). -/
def State.setHealth (s : State) (t : TableId) (h : Health) : State :=
  match t with
  | .borrowers => { s with borrowers := { s.borrowers with health := h } }
  | .loans => { s with loans := { s.loans with health := h } }
  | .items => { s with items := { s.items with health := h } }
  | .policy =>
    let marks := if s.policy.health = .sound ∧ h = .suspect then ⟨false, false, false, false, false, false⟩
      else s.policy.reloaded
    { s with policy := { s.policy with health := h, reloaded := marks } }

/-- A table found at fault: it becomes SUSPECT, and TABLE_FAULT is placed at all ports if it was SOUND (R46). -/
def State.tableFault (s : State) (t : TableId) (cause : FaultCause) (slot : Option Nat) : State :=
  match s.health t with
  | .suspect => s
  | .sound => (s.setHealth t .suspect).notifyAll (.tableFault t cause slot)

/-- The first SUSPECT table among those listed (R68, R133). -/
def State.firstSuspect (s : State) (ts : List TableId) : Option TableId :=
  ts.find? fun t => s.health t == .suspect

/-! ## The borrower map -/

/-- The record of a borrower, if present (R30). -/
def State.borrower? (s : State) (n : Nat) : Option BorrowerRecord :=
  (s.borrowers.entry? BorrowerRecord.number n).map (·.rcd)

/-- Insert a borrower record in the lowest free slot. -/
def State.addBorrower (s : State) (r : BorrowerRecord) : State :=
  { s with borrowers := s.borrowers.insert borrowerCheck r }.touch .borrowers

/-- Update the borrower record under its number. -/
def State.putBorrower (s : State) (r : BorrowerRecord) : State :=
  { s with borrowers := s.borrowers.update BorrowerRecord.number borrowerCheck r }.touch .borrowers

/-- Change a borrower's record, if the borrower is present. `f` keeps the number. -/
def State.modBorrower (s : State) (n : Nat) (f : BorrowerRecord → BorrowerRecord) : State :=
  match s.borrower? n with
  | none => s
  | some r => s.putBorrower (f r)

/-- Remove a borrower's record. -/
def State.dropBorrower (s : State) (n : Nat) : State :=
  { s with borrowers := s.borrowers.remove BorrowerRecord.number n }.touch .borrowers

/-- The borrower map has a free slot (R31). -/
def State.borrowerSlotFree (s : State) : Bool := s.borrowers.lowestFree < borrowerCapacity

/-! ## The loan map and the loan lists -/

/-- The loan record of an item, if it is on loan (R30). -/
def State.loan? (s : State) (item : Nat) : Option LoanRecord :=
  (s.loans.entry? LoanRecord.item item).map (·.rcd)

/-- The loan list of a borrower number: its items in list order; empty when the number holds no loans (R39, R40). -/
def State.loanList (s : State) (borrower : Nat) : List Nat :=
  match s.loanLists.find? fun l => l.1 == borrower with
  | some l => l.2
  | none => []

/-- Give a borrower number a loan list; an empty list does not exist (R39). -/
def setLoanList (borrower : Nat) (items : List Nat) : List (Nat × List Nat) → List (Nat × List Nat)
  | [] => if items.isEmpty then [] else [(borrower, items)]
  | l :: ls =>
    if l.1 = borrower then (if items.isEmpty then ls else (borrower, items) :: ls)
    else if borrower < l.1 then (if items.isEmpty then l :: ls else (borrower, items) :: l :: ls)
    else l :: setLoanList borrower items ls

/-- A loan enters a list after every loan due on or before its own due day (R39; in a list out of order: log 25). -/
def enterList (dueOf : Nat → Nat) (item due : Nat) : List Nat → List Nat
  | [] => [item]
  | x :: xs => if due < dueOf x then item :: x :: xs else x :: enterList dueOf item due xs

/-- The due day of an item's loan (0 where there is none: log 25). -/
def State.dueOf (s : State) (item : Nat) : Nat :=
  match s.loan? item with
  | some l => l.dueDay
  | none => 0

/-- A loan enters its borrower's list by R39. -/
def State.enterLoanList (s : State) (l : LoanRecord) : State :=
  { s with
    loanLists := setLoanList l.borrower (enterList s.dueOf l.item l.dueDay (s.loanList l.borrower)) s.loanLists }

/-- A loan leaves its borrower's list; the others keep their order (R39). -/
def State.leaveLoanList (s : State) (l : LoanRecord) : State :=
  { s with loanLists := setLoanList l.borrower ((s.loanList l.borrower).erase l.item) s.loanLists }

/-- Insert a loan record in the lowest free slot and in its borrower's list (R31, R39). -/
def State.addLoan (s : State) (l : LoanRecord) : State :=
  ({ s with loans := s.loans.insert loanCheck l }.touch .loans).enterLoanList l

/-- Update a loan record whose due day and borrower stay as they were. -/
def State.putLoan (s : State) (l : LoanRecord) : State :=
  { s with loans := s.loans.update LoanRecord.item loanCheck l }.touch .loans

/-- Remove a loan record from its slot and from its borrower's list (R31, R39). -/
def State.dropLoan (s : State) (l : LoanRecord) : State :=
  ({ s with loans := s.loans.remove LoanRecord.item l.item }.touch .loans).leaveLoanList l

/-- The loan map has a free slot (R31). -/
def State.loanSlotFree (s : State) : Bool := s.loans.lowestFree < loanCapacity

/-! ## The item exception list -/

/-- The exception entry of an item, if it has one (R30). -/
def State.exception? (s : State) (item : Nat) : Option ExceptionRecord :=
  (s.items.entry? ExceptionRecord.item item).map (·.rcd)

/-- An entry with no flags and no class override stands for nothing (R38). -/
def ExceptionRecord.isEmpty (r : ExceptionRecord) : Bool :=
  r.holdFor.isNone && !r.notLoanable && !r.missing && r.classOverride.isNone

/-- Insert an exception entry in the lowest free slot. -/
def State.addException (s : State) (r : ExceptionRecord) : State :=
  { s with items := s.items.insert exceptionCheck r }.touch .items

/-- Remove an item's exception entry. -/
def State.dropException (s : State) (item : Nat) : State :=
  { s with items := s.items.remove ExceptionRecord.item item }.touch .items

/-- Update an exception entry; an entry left empty is removed (R38). -/
def State.putException (s : State) (r : ExceptionRecord) : State :=
  if r.isEmpty then s.dropException r.item
  else { s with items := s.items.update ExceptionRecord.item exceptionCheck r }.touch .items

/-- The list has a free slot (R31). -/
def State.exceptionSlotFree (s : State) : Bool := s.items.lowestFree < itemCapacity

/-! ## Sets of requesters -/

/-- The value for a requester. -/
def ByRequester.get {α : Type} (m : ByRequester α) : Requester → α
  | .console => m.console
  | .kiosk => m.kiosk
  | .sweep => m.sweep
  | .uplink => m.uplink
  | .scrubber => m.scrubber

/-- Set the value for a requester. -/
def ByRequester.set {α : Type} (m : ByRequester α) (r : Requester) (a : α) : ByRequester α :=
  match r with
  | .console => { m with console := a }
  | .kiosk => { m with kiosk := a }
  | .sweep => { m with sweep := a }
  | .uplink => { m with uplink := a }
  | .scrubber => { m with scrubber := a }

/-- Apply a function to each value. -/
def ByRequester.map {α β : Type} (m : ByRequester α) (f : α → β) : ByRequester β :=
  ⟨f m.console, f m.kiosk, f m.sweep, f m.uplink, f m.scrubber⟩

/-- The requesters in the fixed tie order (R89). -/
def tieOrder : List Requester := [.console, .kiosk, .sweep, .uplink, .scrubber]

/-- The members of a set, in tie order. -/
def members (m : ByRequester Bool) : List Requester := tieOrder.filter m.get

/-- Remove a requester from every yield set that holds it (R93). -/
def Engine.unyield (e : Engine) (r : Requester) : Engine :=
  { e with yields := e.yields.map fun y => y.set r false }

/-- A requester withdraws: it leaves the waiting set and every yield set (R90, R93). -/
def Engine.withdraw (e : Engine) (r : Requester) : Engine :=
  { e with waiting := e.waiting.set r false }.unyield r

/-! ## The journal -/

/-- The occupancy: the tail less the head (R122). -/
def Journal.occupancy (j : Journal) : Nat := (j.tail - j.head).toNat

/-- The number of delivered entries (R122). -/
def Journal.delivered (j : Journal) : Nat := (j.cursor - j.head).toNat

/-- The number of undelivered entries (R122). -/
def Journal.undelivered (j : Journal) : Nat := (j.tail - j.cursor).toNat

/-- The journal's capacity and its marks (R123, R125). -/
def journalCapacity : Nat := 3072
def criticalMark : Nat := 2944
def pressedMark : Nat := 2304
def promptMark : Nat := 1536

/-- The level of an occupancy (R125). -/
def levelOf (occupancy : Nat) : Level :=
  if occupancy < promptMark then .calm
  else if occupancy < pressedMark then .prompt
  else if occupancy < criticalMark then .pressed
  else if occupancy < journalCapacity then .critical
  else .full

/-- Append one entry: it takes the tail's sequence, and the tail rises by one (R123). -/
def Journal.append (j : Journal) (d : EntryDraft) : Journal :=
  { j with
    entries := j.entries ++ [{ sequence := j.tail, fields := d, check := entryCheck d j.tail }]
    tail := j.tail + 1 }

/-- JOURNAL_LEVEL is placed when the level differs from the level before the event (R125). -/
def State.evaluateLevel (s : State) (before : Nat) : State :=
  let now := s.journal.occupancy
  if levelOf now = levelOf before then s else s.notifyConsoleUplink (.journalLevel (levelOf now) now)

/-- A sweep that is REQUESTING when the occupancy reaches 2,304 becomes STALLED and withdraws, but not while its
first-batch mark is set (R100). -/
def State.stallSweep (s : State) : State :=
  if s.sweep.state = .requesting ∧ s.sweep.firstBatch = false ∧ pressedMark ≤ s.journal.occupancy then
    { s with sweep := { s.sweep with state := .stalled }, engine := s.engine.withdraw .sweep }
  else s

/-- An append event: the entries of one commit, appended in order, then the level evaluated and the sweep told
(R123, R125, R100). -/
def State.appendEntries (s : State) (ds : List EntryDraft) : State :=
  let before := s.journal.occupancy
  ({ s with journal := ds.foldl Journal.append s.journal }.evaluateLevel before).stallSweep

/-- The fields of a DATE_SET entry (R53, R121). -/
def dateDraft (e : DateEntry) : EntryDraft := { kind := .dateSet, day := e.day, time := e.time, source := .clock }

/-- A DATE_SET entry tested against the occupancy: appended below 2,944, skipped and counted otherwise (R124). -/
def State.offerDate (s : State) (e : DateEntry) : State :=
  if s.journal.occupancy < criticalMark then s.appendEntries [dateDraft e] else s.addDateEntryLost

/-- The waiting DATE_SET entries tested one by one, oldest first (R124). -/
def State.flushDates (s : State) : State :=
  s.journal.waitingDates.foldl State.offerDate { s with journal := { s.journal with waitingDates := [] } }

end Sys2Proof.Machine
end

