-- ==== Sys2Proof/Machine/Operands.lean ====
section
/-! DEFINITION. The operand forms of the requests: what a payload's bytes name (R67, R126, R133, R144, R167, R168), the
length each request's layout asks for (R161 step 5), the ports each request may use (R162), and the clamps of the
policy sections (R41, R57, R60, R89, R105, R145, R146). -/

namespace Sys2Proof.Machine

/-! ## Identifiers -/

/-- The largest identifier number (R30, R167). -/
def maxIdent : Nat := 9999999999

/-- The value that stands for "current" or "from wand" (R167). -/
def standingIdent : Nat := 0xFFFFFFFFFF

/-- An identifier of a request: a number, "current" / "from wand", or out of range. -/
inductive Ref where
  | given (n : Nat)
  | standing
  | outOfRange
  deriving DecidableEq, Repr

/-- What a 5-byte identifier names (R167). -/
def refOf (v : Nat) : Ref :=
  if v = standingIdent then .standing else if v ≤ maxIdent then .given v else .outOfRange

/-- The value of `len` bytes at `off` in a payload. -/
def at_ (payload : List Byte) (off len : Nat) : Nat := valueOf ((payload.drop off).take len)

/-- The identifier at an offset. -/
def refAt (payload : List Byte) (off : Nat) : Ref := refOf (at_ payload off 5)

/-! ## Permissions and lengths -/

/-- The requests each port may send (R162). -/
def permitted : ReqCode → Port → Bool
  | .scanTake, p | .checkout, p | .returnItem, p | .renew, p | .loansList, p | .slipCut, p | .printerResume, p
  | .unbind, p => p != .uplink
  | .borrowerQuery, _ | .noticeTake, _ | .status, _ => true
  | .finePay, p | .borrowerAdd, p | .itemFlagSet, p | .deskOpen, p | .deskClose, p => p == .console
  | .policyLoad, p | .dateSet, p => p != .kiosk
  | .journalArm, p | .journalFetch, p | .journalRelease, p | .journalRewind, p | .borrowerLoad, p
  | .itemFlagsLoad, p | .markAll, p | .purgeMarked, p | .tableClear, p | .tableRebuild, p | .loanLoad, p
  | .nightEnter, p | .nightLeave, p => p == .uplink

/-- A payload of a record count and that many records of `size` bytes (R168). -/
def recordsLength (size : Nat) (payload : List Byte) : Bool :=
  match payload with
  | [] => false
  | n :: rest => rest.length == n.toNat * size

/-- The length of a desk terms section: two desks' terms with their branch names, then 12 bytes (R168). -/
def deskTermsLength (c : List Byte) : Bool :=
  let n1 := at_ c 11 1
  let n2 := at_ c (23 + n1) 1
  12 ≤ c.length && 24 + n1 ≤ c.length && c.length == 36 + n1 + n2

/-- The length of a POLICY_LOAD payload against its section's layout, counts and name lengths included (R168). A
selector that names no section has no layout to disagree with; its own rule refuses it (R144). -/
def policyLength (payload : List Byte) : Bool :=
  match payload with
  | [] => false
  | k :: c =>
    match k.toNat with
    | 0 => c.length == 384
    | 1 => c.length == 80
    | 2 => c.length == 64
    | 3 => deskTermsLength c
    | 4 => c.length == 72
    | 5 => recordsLength 11 c
    | _ => true

/-- The payload length agrees with the request's layout (R161 step 5; R167: fields in the order the rule names). -/
def lengthAgrees (code : ReqCode) (payload : List Byte) : Bool :=
  match code with
  | .scanTake | .slipCut | .printerResume | .unbind | .noticeTake | .status | .deskOpen | .deskClose
  | .journalRewind | .markAll | .purgeMarked | .nightEnter | .nightLeave => payload.length == 0
  | .checkout | .renew => payload.length == 11
  | .returnItem | .borrowerQuery => payload.length == 5
  | .loansList | .borrowerAdd => payload.length == 6
  | .finePay => payload.length == 9
  | .itemFlagSet => payload.length == 7
  | .policyLoad => policyLength payload
  | .dateSet => payload.length == 6
  | .journalArm | .journalRelease => payload.length == 4
  | .journalFetch | .tableClear | .tableRebuild => payload.length == 1
  | .borrowerLoad => recordsLength 24 payload
  | .itemFlagsLoad => recordsLength 13 payload
  | .loanLoad => recordsLength 28 payload

/-! ## Load records -/

/-- A payload cut into `n` records of `size` bytes. -/
def recordBytes (size : Nat) : Nat → List Byte → List (List Byte)
  | 0, _ => []
  | n + 1, bs => bs.take size :: recordBytes size n (bs.drop size)

/-- A BORROWER_LOAD record (R167). -/
def borrowerLoadRecord (b : List Byte) : BorrowerLoadRecord where
  borrower := at_ b 0 5
  category := at_ b 5 1
  expiryDay := at_ b 6 2
  serverBlock := at_ b 8 1
  delta := signedValueOf ((b.drop 9).take 4)
  remove := at_ b 13 1
  reference := (b.drop 14).take 10

/-- An ITEM_FLAGS_LOAD record (R167). -/
def itemLoadRecord (b : List Byte) : ItemLoadRecord where
  item := at_ b 0 5
  action := at_ b 5 1
  flags := b.getD 6 0
  holdBorrower := at_ b 7 5
  classOverride := at_ b 12 1

/-- A LOAN_LOAD record (R167). -/
def loanLoadRecord (b : List Byte) : LoanLoadRecord where
  item := at_ b 0 5
  borrower := at_ b 5 5
  itemClass := at_ b 10 1
  outDay := at_ b 11 2
  dueDay := at_ b 13 2
  chargedThrough := at_ b 15 2
  fineAccrued := at_ b 17 2
  renewals := at_ b 19 1
  desk := at_ b 20 1
  reference := (b.drop 21).take 7

/-- The records of a load's payload. -/
def loadRecords {α : Type} (size : Nat) (read : List Byte → α) (payload : List Byte) : List α :=
  (recordBytes size (at_ payload 0 1) (payload.drop 1)).map read

/-! ## Policy sections -/

/-- The section a selector names (R168). -/
def sectionOf : Nat → Option PolicySection
  | 0 => some .matrix
  | 1 => some .classTerms
  | 2 => some .categoryTerms
  | 3 => some .deskTerms
  | 4 => some .calendar
  | 5 => some .classRanges
  | _ => none

/-- The number of a wand mode (section 1.6, R167). -/
def wandModeOf : Nat → Option WandMode
  | 0 => some .off
  | 1 => some .on
  | 2 => some .presence
  | 3 => some .presenceHold
  | _ => none

/-- An on/off setting: ON 0, OFF 1 (R16, R167; log 16). -/
def onOffOf : Nat → Option Bool
  | 0 => some true
  | 1 => some false
  | _ => none

/-- An overflow mode (R16, R167). -/
def overflowOf : Nat → Option OverflowMode
  | 0 => some .keepOldest
  | 1 => some .keepNewest
  | _ => none

/-- One desk's terms, the branch name `len` characters long (R168); none where an enumerated value is undefined. -/
def readDeskTerms (c : List Byte) : Option DeskTerms :=
  match wandModeOf (at_ c 0 1), onOffOf (at_ c 3 1), onOffOf (at_ c 4 1), overflowOf (at_ c 7 1) with
  | some wandMode, some autoBind, some unbindOnLeave, some overflow =>
    some
      { wandMode, doubleScan := at_ c 1 2, autoBind, unbindOnLeave, idleTime := at_ c 5 2, overflow,
        defaultClass := at_ c 8 1, gatherTime := at_ c 9 1, waitLimit := at_ c 10 1,
        branchName := (c.drop 12).take (at_ c 11 1) }
  | _, _, _, _ => none

/-- The desk terms section (R168). -/
def readDeskSection (c : List Byte) : Option DeskSection :=
  let n1 := at_ c 11 1
  let c2 := c.drop (12 + n1)
  let n2 := at_ c2 11 1
  let c3 := c2.drop (12 + n2)
  match readDeskTerms c, readDeskTerms c2 with
  | some console, some kiosk =>
    some
      { console, kiosk, opening := at_ c3 0 4, closing := at_ c3 4 4, levelConsole := at_ c3 8 1,
        levelKiosk := at_ c3 9 1, levelSweep := at_ c3 10 1, levelUplink := at_ c3 11 1 }
  | _, _ => none

/-- The calendar section (R168): the bit of value 0x80 of the mask is not read, and byte k of the set holds marks 8k to
8k + 7. -/
def readCalendar (c : List Byte) : Calendar where
  year := at_ c 0 2
  month := at_ c 2 1
  day := at_ c 3 1
  weekday0 := at_ c 4 1
  closedMask := BitVec.ofNat 7 (at_ c 5 1)
  base := at_ c 6 2
  closedDays := BitVec.ofNat 512 (valueOf ((c.drop 8).take 64).reverse)

/-- The class range list (R168), refused with more than 16 entries or with an item number out of range (R144). -/
def readRanges (c : List Byte) : Option (List ClassRange) :=
  let rs := (recordBytes 11 (at_ c 0 1) (c.drop 1)).map fun b =>
    ({ low := at_ b 0 5, high := at_ b 5 5, itemClass := at_ b 10 1 } : ClassRange)
  if rs.length ≤ 16 && rs.all (fun r => r.low ≤ maxIdent && r.high ≤ maxIdent) then some rs else none

/-- The contents a POLICY_LOAD carries for a section (R168); none where R144 refuses them with BAD_FIELD. -/
def readSection (k : PolicySection) (c : List Byte) : Option SectionContents :=
  match k with
  | .matrix => some (.matrix ((recordBytes 3 128 c).map fun b => { period := at_ b 0 2, renewalLimit := at_ b 2 1 }))
  | .classTerms => some (.classTerms ((recordBytes 5 16 c).map fun b =>
      { grace := at_ b 0 1, rate := at_ b 1 2, cap := at_ b 3 2 }))
  | .categoryTerms => some (.categoryTerms ((recordBytes 8 8 c).map fun b =>
      { loanLimit := at_ b 0 1, fineLimit := at_ b 1 4, overdueBlock := at_ b 5 2, provisionalDays := at_ b 7 1 }))
  | .deskTerms => (readDeskSection c).map .deskTerms
  | .calendar => some (.calendar (readCalendar c))
  | .classRanges => (readRanges c).map .classRanges

/-! ## Clamps -/

/-- A value clamped to the nearer end of a range. -/
def clampTo (lo hi n : Nat) : Nat := max lo (min n hi)

/-- The year is a leap year (R63). -/
def leapYear (y : Nat) : Bool := (y % 4 == 0 && y % 100 != 0) || y % 400 == 0

/-- The length of a month, 1 to 12 (R63). -/
def monthLength (y m : Nat) : Nat :=
  match m with
  | 2 => if leapYear y then 29 else 28
  | 4 | 6 | 9 | 11 => 30
  | _ => 31

/-- A desk's terms clamped (R10, R16, R41, R105). -/
def clampDeskTerms (t : DeskTerms) : DeskTerms :=
  { t with
    doubleScan := min t.doubleScan 5000
    idleTime := clampTo 10 600 t.idleTime
    defaultClass := min t.defaultClass 15
    gatherTime := clampTo 5 120 t.gatherTime
    waitLimit := clampTo 1 255 t.waitLimit
    branchName := (t.branchName.take 32).map fun c => if 32 ≤ c.toNat ∧ c.toNat ≤ 126 then c else 32 }

/-- The contents of a section with every numeric value clamped into its range (R144). D0 is clamped after Y0 and M0,
against the month they give (R57). -/
def clampContents : SectionContents → SectionContents
  | .matrix cells => .matrix (cells.map fun c =>
      { period := min c.period 366, renewalLimit := min c.renewalLimit 15 })
  | .classTerms ts => .classTerms (ts.map fun t =>
      { grace := min t.grace 7, rate := min t.rate 2000, cap := min t.cap 65535 })
  | .categoryTerms ts => .categoryTerms (ts.map fun t =>
      { loanLimit := clampTo 1 60 t.loanLimit, fineLimit := min t.fineLimit 999999,
        overdueBlock := min t.overdueBlock 255, provisionalDays := clampTo 1 90 t.provisionalDays })
  | .deskTerms d => .deskTerms
      { console := clampDeskTerms d.console, kiosk := clampDeskTerms d.kiosk, opening := min d.opening 86399,
        closing := min d.closing 86399, levelConsole := min d.levelConsole 7, levelKiosk := min d.levelKiosk 7,
        levelSweep := min d.levelSweep 7, levelUplink := min d.levelUplink 7 }
  | .calendar c =>
    let year := clampTo 2000 2199 c.year
    let month := clampTo 1 12 c.month
    .calendar
      { c with
        year, month, day := clampTo 1 (monthLength year month) c.day, weekday0 := min c.weekday0 6
        base := min c.base 65535 }
  | .classRanges rs => .classRanges (rs.map fun r => { r with itemClass := min r.itemClass 15 })

end Sys2Proof.Machine
end

