-- ==== Sys2Proof/Machine/Labels.lean ====
section
/-! DEFINITION. Labels (chapter 1): the symbology (R1), the classification of a character (R5) and the decoding of an
ended scan (R6 to R8). -/

namespace Sys2Proof.Machine

/-- A character of the symbology (R1). -/
inductive Symbol where
  | digit (n : Nat)
  | kindB
  | kindI
  | start
  | stop
  | reverseStop
  | reverseStart
  deriving DecidableEq, Repr

/-- The pattern table: the wide elements, position 1 first, and the character (R1). -/
def patternTable : List (List Bool × Symbol) :=
  [([true, true, false, false, false], .digit 1), ([true, false, true, false, false], .digit 2),
   ([true, false, false, true, false], .digit 3), ([true, false, false, false, true], .digit 4),
   ([false, true, true, false, false], .digit 5), ([false, true, false, true, false], .digit 6),
   ([false, true, false, false, true], .digit 7), ([false, false, true, true, false], .digit 8),
   ([false, false, true, false, true], .digit 9), ([false, false, false, true, true], .digit 0),
   ([false, true, false, false, false], .kindB), ([false, false, false, true, false], .kindI),
   ([true, true, false, true, false], .start), ([true, false, false, true, true], .stop),
   ([true, true, false, false, true], .reverseStop), ([false, true, false, true, true], .reverseStart)]

/-- The smallest of a character's element widths (R5). -/
def narrowest (ws : List Nat) : Nat := ws.foldl min (ws.headD 0)

/-- An element is wide, narrow (false), or AMBIGUOUS (none) at the scale `m` (R5). -/
def elementWide (m w : Nat) : Option Bool :=
  if 10 * w ≤ 17 * m then some false else if 23 * m ≤ 10 * w then some true else none

/-- The character of five element widths, or none where it is rejected (R5). -/
def classify (ws : List Nat) : Option Symbol :=
  match ws.mapM (elementWide (narrowest ws)) with
  | none => none
  | some wide => (patternTable.find? fun row => row.1 == wide).map (·.2)

/-- The widths of character `k`, 1 to 14: elements 6k − 5 to 6k − 1 counted from 1 (R1). -/
def characterWidths (elements : List Nat) (k : Nat) : List Nat := (elements.drop (6 * (k - 1))).take 5

/-- Positions 1 to `n`. -/
def positions (n : Nat) : List Nat := (List.range n).map (· + 1)

/-- Gap `k`, element 6k, is at most three times the smallest width of the character before it (R7 step 4). -/
def gapPasses (elements : List Nat) (k : Nat) : Bool :=
  elements.getD (6 * k - 1) 0 ≤ 3 * narrowest (characterWidths elements k)

/-- A character is a digit. -/
def Symbol.isDigit : Symbol → Bool
  | .digit _ => true
  | _ => false

/-- What must stand at each position (R7 step 5). -/
def structureHolds (k : Nat) (c : Symbol) : Bool :=
  if k = 1 then c == .start
  else if k = 2 then c == .kindB || c == .kindI
  else if k = 14 then c == .stop
  else c.isDigit

/-- The value of a digit. -/
def Symbol.value : Symbol → Nat
  | .digit n => n
  | _ => 0

/-- The weighted sum of the digits modulo 11 (R8). -/
def checkValue (ds : List Nat) : Nat := ((ds.zipIdx 1).foldl (fun v x => v + x.1 * x.2) 0) % 11

/-- Digits read as a decimal number, the most significant first (R1). -/
def numberOf (ds : List Nat) : Nat := ds.foldl (fun v d => v * 10 + d) 0

/-- What an ended scan comes to. -/
inductive ScanOutcome where
  | misread (m : Misread)
  | label (kind : LabelKind) (number : Nat) (direction : Direction)
  deriving DecidableEq, Repr

/-- A misread without a position, and one at a position (R9). -/
def misreadOf (cause : MisreadCause) : ScanOutcome := .misread { cause, position := none }
def misreadAt (cause : MisreadCause) (k : Nat) : ScanOutcome := .misread { cause, position := some k }

/-- Steps 5 and 6 on the characters of a label in printed order (R7, R8). -/
def decodeCharacters (cs : List Symbol) (direction : Direction) : ScanOutcome :=
  match (positions 14).find? fun k => !structureHolds k (cs.getD (k - 1) .start) with
  | some k => misreadAt .badStructure k
  | none =>
    let ds := ((cs.drop 2).take 10).map Symbol.value
    let printed := (cs.getD 12 .start).value
    if checkValue ds ≤ 9 ∧ checkValue ds = printed then
      .label (if cs.getD 1 .start = .kindB then .borrower else .item) (numberOf ds) direction
    else misreadOf .check

/-- Steps 3 to 6 on an element list in printed order (R7, R8). -/
def decodePrinted (elements : List Nat) (direction : Direction) : ScanOutcome :=
  let cs := (positions 14).map fun k => classify (characterWidths elements k)
  match (positions 14).find? fun k => (cs.getD (k - 1) none).isNone with
  | some k => misreadAt .badCharacter k
  | none =>
    match (positions 13).find? fun k => !gapPasses elements k with
    | some k => misreadAt .broken k
    | none => decodeCharacters (cs.filterMap id) direction

/-- The decoding of an ended scan, steps 1 to 6 (R6 to R8). -/
def decodeScan (count : Nat) (elements : List Nat) : ScanOutcome :=
  if count ≠ 83 then misreadOf .length
  else match classify (elements.take 5) with
    | some .start => decodePrinted elements .forward
    | some .reverseStop => decodePrinted elements.reverse .backward
    | _ => misreadOf .noStart

end Sys2Proof.Machine
end

