-- ==== Sys2Proof/Machine/Flags.lean ====
section
/-! DEFINITION. The coded conditions of replies and entries: the item-flag coding (R167), a borrower's verdict (R69,
R84), the slip status of a commit (R87), the attention byte and line (R160), and the numbers of enumerated values
(R167). -/

namespace Sys2Proof.Machine

/-! ## Item flags -/

/-- The item-flag coding of an entry's flags: HOLD 0x01, NOT_LOANABLE 0x02, MISSING 0x04 (R167). The bit of the hold
borrower's presence is no item flag (log 17). -/
def ExceptionRecord.flagsValue (r : ExceptionRecord) : Nat :=
  r.holdFor.isSome.toNat * 0x01 + r.notLoanable.toNat * 0x02 + r.missing.toNat * 0x04

/-- The flags of an item: those of its exception entry, or none (R30, R83). -/
def State.itemFlags (s : State) (item : Nat) : Nat :=
  match s.exception? item with
  | some r => r.flagsValue
  | none => 0

/-- The flag of ITEM_FLAG_SET in an entry. -/
def ExceptionRecord.hasFlag (r : ExceptionRecord) : ItemFlag → Bool
  | .missing => r.missing
  | .notLoanable => r.notLoanable

/-- Set or clear the flag of ITEM_FLAG_SET; HOLD, the hold borrower and the class override stay (R83). -/
def ExceptionRecord.setFlag (r : ExceptionRecord) (f : ItemFlag) (b : Bool) : ExceptionRecord :=
  match f with
  | .missing => { r with missing := b }
  | .notLoanable => { r with notLoanable := b }

/-! ## The borrower steps of a checkout -/

/-- What the borrower steps find: a refusal with its values, or a pass, saying whether a step was bypassed. -/
inductive Verdict where
  | pass (bypassed : Bool)
  | refuse (code : ReplyCode) (values : List Field)
  deriving DecidableEq, Repr

/-- The fine block: the category fine limit is not 0 and the balance is not below it (R69 step 6, R77 step 7). -/
def finesBlock (r : BorrowerRecord) (t : CategoryTerms) : Bool := t.fineLimit != 0 && t.fineLimit ≤ r.fineBalance

/-- The overdue block (R69 step 7, R77 step 8). -/
def overdueBlocks (r : BorrowerRecord) (t : CategoryTerms) : Bool :=
  t.overdueBlock != 0 && t.overdueBlock ≤ r.overdueLoans

/-- The steps that CHECKOUT and RENEW share on a present borrower: server block, expiry, fines, overdue loans, with the
override's bypass (R69 steps 4 to 7, R77 steps 5 to 8). -/
def blockVerdict (r : BorrowerRecord) (t : CategoryTerms) (day : Nat) (overriding : Bool) : Verdict :=
  if r.serverBlock ≠ 0 then .refuse .blockedServer [.small r.serverBlock]
  else if r.expiryDay < day then .refuse .blockedExpired [.day r.expiryDay]
  else if finesBlock r t && !overriding then .refuse .blockedFines [.money r.fineBalance, .money t.fineLimit]
  else if overdueBlocks r t && !overriding then
    .refuse .blockedOverdue [.small r.overdueLoans, .small t.overdueBlock]
  else .pass (finesBlock r t || overdueBlocks r t)

/-- Steps 4 to 8 of a CHECKOUT on a present borrower: the shared steps, then the loan limit, bypassed by the override
only while the loan count is below 255 (R69). -/
def checkoutVerdict (r : BorrowerRecord) (t : CategoryTerms) (day : Nat) (overriding : Bool) : Verdict :=
  match blockVerdict r t day overriding with
  | .refuse code values => .refuse code values
  | .pass bypassed =>
    if r.loanCount < t.loanLimit then .pass bypassed
    else if overriding && r.loanCount < 255 then .pass true
    else .refuse .limitReached [.small r.loanCount, .small t.loanLimit]

/-- The reply code of a verdict (R84). -/
def Verdict.code : Verdict → ReplyCode
  | .pass _ => .ok
  | .refuse code _ => code

/-! ## Slip status -/

/-- The slip status of a commit, decided after all of its slip actions (R87). -/
def State.slipStatus (s : State) (d : Desk) (lost : Bool) : SlipStatus :=
  if lost then .spoolFullLost
  else match (s.desk d).spooler.state with
    | .stalled => .printerState .stalled
    | .noPaper => .printerState .noPaper
    | _ => .queued

/-- The slip status of a cut: absent when the open slip was empty (R106, R108). `none` is "nothing cut". -/
def cutStatus : Option Bool → SlipStatus
  | none => .none
  | some true => .spoolFullLost
  | some false => .queued

/-! ## Attention -/

/-- The attention line (R160): a frame not yet sent, or a notice. -/
def PortState.attention (q : PortState) : Bool := !q.outQ.isEmpty || !q.notices.isEmpty

/-- The attention byte: 0x01 REPLY_READY, 0x02 a notice waiting (R160). -/
def PortState.attentionByte (q : PortState) : Byte :=
  byte ((!q.outQ.isEmpty).toNat * 0x01 + (!q.notices.isEmpty).toNat * 0x02)

/-- The illumination output of a wand (R11). -/
def Wand.illuminated (w : Wand) : Bool := w.state = .active

end Sys2Proof.Machine
end

