-- ==== Sys2Proof/Machine/Calendar.lean ====
section
/-! DEFINITION. Days, due days and fines (chapter 4): open days (R58), the due day (R59), the fine charge (R60, R61),
civil dates and their printing (R63, R64), and the policy cells that an operation reads. -/

namespace Sys2Proof.Machine

/-- The last day number. -/
def lastDay : Nat := 65535

/-! ## Open days -/

/-- The weekday of a day, 0 for Monday (R58, R63). -/
def Calendar.weekday (c : Calendar) (d : Nat) : Nat := (d + c.weekday0) % 7

/-- The mark of the closed-day set for a day in the calendar window (R58). -/
def Calendar.marked (c : Calendar) (d : Nat) : Bool :=
  c.base ≤ d && d ≤ c.base + 511 && c.closedDays.getLsbD (d - c.base)

/-- The day is open (R58). -/
def Calendar.isOpen (c : Calendar) (d : Nat) : Bool := !c.closedMask.getLsbD (c.weekday d) && !c.marked d

/-- The number of open days among the `n` days after day `from_`. -/
def Calendar.openDays (c : Calendar) (from_ : Nat) : Nat → Nat
  | 0 => 0
  | n + 1 => c.openDays from_ n + (c.isOpen (from_ + n + 1)).toNat

/-! ## The due day -/

/-- Step 2 of R59: at most `n` shifts forward from a closed day, none past day 65,535. -/
def Calendar.shiftForward (c : Calendar) : Nat → Nat → Nat
  | 0, d => d
  | n + 1, d => if c.isOpen d then d else c.shiftForward n (min (d + 1) lastDay)

/-- The walk back of step 3 of R59, from day `t + n`: to an open day, or to `t`. -/
def Calendar.walkBack (c : Calendar) (t : Nat) : Nat → Nat
  | 0 => t
  | n + 1 => if c.isOpen (t + n + 1) then t + n + 1 else c.walkBack t n

/-- The due day from the operation day, the loan period and the expiry day (R59). -/
def Calendar.dueDay (c : Calendar) (today period expiry : Nat) : Nat :=
  let d := c.shiftForward 14 (min (today + period) lastDay)
  if expiry < d then c.walkBack today (max expiry today - today) else d

/-! ## Policy cells -/

/-- The loan-matrix cell of a class and a category (R145; a cell outside the matrix: log 28). -/
def PolicyData.cell (p : PolicyData) (itemClass category : Nat) : MatrixCell :=
  p.matrix.getD (itemClass * 8 + category) { period := 0, renewalLimit := 0 }

/-- The terms of a class (R60; a class outside the terms: log 28). -/
def PolicyData.classOf (p : PolicyData) (itemClass : Nat) : ClassTerms :=
  p.classTerms.getD itemClass { grace := 0, rate := 0, cap := 0 }

/-- The terms of a category (R145; a category outside the terms: log 28). -/
def PolicyData.categoryOf (p : PolicyData) (category : Nat) : CategoryTerms :=
  p.categoryTerms.getD category { loanLimit := 1, fineLimit := 0, overdueBlock := 0, provisionalDays := 1 }

/-- The class of an item: its class override, else its first range, else the desk's default (R42). -/
def State.classOfItem (s : State) (p : PolicyData) (d : Desk) (item : Nat) : Nat :=
  match (s.exception? item).bind (·.classOverride) with
  | some c => c
  | none =>
    match p.ranges.find? fun r => r.low ≤ item && item ≤ r.high with
    | some r => r.itemClass
    | none => (p.desks.terms d).defaultClass

/-! ## The fine charge -/

/-- The largest fine balance (R35). -/
def maxBalance : Nat := 999999

/-- The outcome of a fine charge (R60, R61). -/
structure Charge where
  loan : LoanRecord
  addedLoan : Nat
  addedBalance : Nat
  deriving DecidableEq, Repr

/-- The flag SATURATED of a charge's entry (R61). -/
def Charge.saturated (c : Charge) : Bool := c.addedBalance < c.addedLoan

/-- The charge of a loan through day `t`, against the balance of its borrower; an absent borrower takes nothing
(R60, R61). -/
def chargeLoan (p : PolicyData) (t : Nat) (l : LoanRecord) (balance : Option Nat) : Charge :=
  let terms := p.classOf l.itemClass
  if t ≤ l.dueDay + terms.grace then { loan := l, addedLoan := 0, addedBalance := 0 }
  else
    let raw := p.calendar.openDays l.chargedThrough (t - l.chargedThrough) * terms.rate
    let addedLoan := min raw (terms.cap - l.fineAccrued)
    let addedBalance := match balance with
      | some b => min addedLoan (maxBalance - b)
      | none => 0
    { loan := { l with fineAccrued := l.fineAccrued + addedLoan, chargedThrough := t }, addedLoan, addedBalance }

/-- The charge of a loan as the state's borrower map stands. -/
def State.charge (s : State) (p : PolicyData) (t : Nat) (l : LoanRecord) : Charge :=
  chargeLoan p t l ((s.borrower? l.borrower).map (·.fineBalance))

/-- The balance step of a charge (R60 step 5). A charge that reaches no balance updates no borrower. -/
def State.chargeBorrower (s : State) (c : Charge) : State :=
  if c.addedBalance = 0 then s
  else s.modBorrower c.loan.borrower fun r => { r with fineBalance := r.fineBalance + c.addedBalance }

/-! ## Civil dates -/

/-- A civil date (R63). -/
structure Civil where
  year : Nat
  month : Nat
  day : Nat
  deriving DecidableEq, Repr

/-- One day forward (R63). -/
def Civil.next (x : Civil) : Civil :=
  if x.day < monthLength x.year x.month then { x with day := x.day + 1 }
  else if x.month < 12 then { x with month := x.month + 1, day := 1 }
  else { year := x.year + 1, month := 1, day := 1 }

/-- The civil date of a day (R63). -/
def Calendar.civil (c : Calendar) : Nat → Civil
  | 0 => { year := c.year, month := c.month, day := c.day }
  | n + 1 => (c.civil n).next

/-! ## Printed text -/

/-- `n` in `k` decimal digits with leading zeros, as character codes. -/
def digits : Nat → Nat → List Byte
  | 0, _ => []
  | k + 1, n => byte (48 + n / 10 ^ k % 10) :: digits k n

/-- `n` in decimal with no leading zeros, as character codes. -/
def decimal (n : Nat) : List Byte := charCodes (Nat.toDigits 10 n)

/-- The weekday names (R64). -/
def weekdayNames : List (List Char) :=
  [['M', 'o', 'n'], ['T', 'u', 'e'], ['W', 'e', 'd'], ['T', 'h', 'u'], ['F', 'r', 'i'], ['S', 'a', 't'],
   ['S', 'u', 'n']]

/-- The month names (R64). -/
def monthNames : List (List Char) :=
  [['J', 'a', 'n'], ['F', 'e', 'b'], ['M', 'a', 'r'], ['A', 'p', 'r'], ['M', 'a', 'y'], ['J', 'u', 'n'],
   ['J', 'u', 'l'], ['A', 'u', 'g'], ['S', 'e', 'p'], ['O', 'c', 't'], ['N', 'o', 'v'], ['D', 'e', 'c']]

/-- A space. -/
def space : List Byte := [32]

/-- A day as a printed date (R64). -/
def Calendar.dateText (c : Calendar) (d : Nat) : List Byte :=
  let x := c.civil d
  charCodes (weekdayNames.getD (c.weekday d) []) ++ space ++ digits 2 x.day ++ space
    ++ charCodes (monthNames.getD (x.month - 1) []) ++ space ++ digits 4 x.year

/-- A time of day as a printed time (R64). -/
def timeText (s : Nat) : List Byte := digits 2 (s / 3600) ++ [58] ++ digits 2 (s % 3600 / 60)

/-- An amount of money as printed (R111). -/
def amountText (cents : Nat) : List Byte := decimal (cents / 100) ++ [46] ++ digits 2 (cents % 100)

end Sys2Proof.Machine
end

