-- ==== Sys2Proof/Machine/Slips.lean ====
section
/-! DEFINITION. Slips and printers (chapter 7): rendering (R110 to R112), the printer's movements (R113 to R117), the
offer to a spool (R109), the cut (R106) and the line added to an open slip (R107). -/

namespace Sys2Proof.Machine

/-! ## Rendering -/

/-- The text of a LOAN line: two lines (R110). -/
def SlipLine.text (c : Calendar) (l : SlipLine) : List (List Byte) :=
  [charCodes ['I', 'T', 'E', 'M', ' '] ++ digits 10 l.item,
   charCodes ['D', 'U', 'E', ' '] ++ c.dateText l.dueDay
     ++ (if l.renewed then charCodes [' ', 'R', 'E', 'N', 'E', 'W', 'E', 'D'] else [])]

/-- Six asterisks and the last four digits of a number (R110, R111). -/
def maskedText (n : Nat) : List Byte := List.replicate 6 42 ++ digits 4 (n % 10000)

/-- The lines that follow lines 1 and 2 of a slip (R110, R111). -/
def SlipBody.text (c : Calendar) : SlipBody → List (List Byte)
  | .loan borrower lines =>
    [maskedText borrower] ++ lines.flatMap (SlipLine.text c)
      ++ [charCodes ['I', 'T', 'E', 'M', 'S', ' '] ++ decimal lines.length]
  | .route item lastFour =>
    [charCodes ['R', 'O', 'U', 'T', 'E', ' ', 'T', 'O', ' ', 'H', 'O', 'L', 'D', 'S'],
     charCodes ['I', 'T', 'E', 'M', ' '] ++ digits 10 item,
     charCodes ['H', 'O', 'L', 'D', ' ', 'F', 'O', 'R', ' '] ++ maskedText lastFour]
  | .payment amount balance =>
    [charCodes ['P', 'A', 'Y', 'M', 'E', 'N', 'T', ' ', 'R', 'E', 'C', 'E', 'I', 'V', 'E', 'D'],
     charCodes ['P', 'A', 'I', 'D', ' '] ++ amountText amount,
     charCodes ['B', 'A', 'L', 'A', 'N', 'C', 'E', ' '] ++ amountText balance]

/-- A slip rendered from its fields, its desk's terms and the calendar (R110, R111). -/
def Slip.render (p : PolicyData) (x : Slip) : List (List Byte) :=
  [(p.desks.terms x.desk).branchName, p.calendar.dateText x.day ++ space ++ timeText x.time] ++ x.body.text p.calendar

/-- The line-end character and the cut code (R112). -/
def lineEnd : Byte := 10
def cutCode : Byte := 12

/-- The character at a print position: of a line, then its line end; after the last line, the cut code (R112). -/
def charAt (text : List (List Byte)) (line char : Nat) : Byte :=
  match text[line]? with
  | some l => l.getD char lineEnd
  | none => cutCode

/-- The whole stream of a rendered slip (R112). -/
def stream (text : List (List Byte)) : List Byte := (text.flatMap fun l => l ++ [lineEnd]) ++ [cutCode]

/-- The spooler's next character is the cut code (R112). -/
def Spooler.atCut (x : Spooler) : Bool := x.text.length ≤ x.posLine

/-- The print position after the character at it (R112). -/
def Spooler.advance (x : Spooler) : Spooler :=
  match x.text[x.posLine]? with
  | some l =>
    if x.posChar < l.length then { x with posChar := x.posChar + 1 }
    else { x with posLine := x.posLine + 1, posChar := 0 }
  | none => x

/-! ## The printer -/

/-- The wait limit of a desk in milliseconds (R113). -/
def State.waitLimitMs (s : State) (d : Desk) : Nat := (s.terms d).waitLimit * 16

/-- The character at the print position placed on the data lines and strobed: the printer holds busy from the strobe
(R113 step 2; log 11). -/
def State.strobe (s : State) (d : Desk) : State :=
  (s.modSpooler d fun x =>
    { x with
      state := .waiting, strobed := true, waitTimer := some (s.waitLimitMs d), gapTimer := none
      dataLines := some (charAt x.text x.posLine x.posChar) }).modLines d fun l => { l with busy := true }

/-- PRINTING, for the next character: strobed, or held while busy is asserted (R113; log 10). -/
def State.printNext (s : State) (d : Desk) : State :=
  if (s.desk d).lines.busy then
    s.modSpooler d fun x =>
      { x with state := .waiting, strobed := false, waitTimer := some (s.waitLimitMs d), gapTimer := none }
  else s.strobe d

/-- A slip's printing started or restarted: rendered, from its first character (R112, R113). -/
def State.startPrinting (s : State) (d : Desk) (x : Slip) : State :=
  (s.modSpooler d fun sp =>
    { sp with state := .printing, text := x.render s.policy.data, posLine := 0, posChar := 0 }).printNext d

/-- PRINTER_STATE at the desk's port (R116, R117). -/
def State.notifyPrinter (s : State) (d : Desk) (st : PrinterState) : State :=
  s.notify (deskPort d) (.printerState st (s.desk d).spooler.spool.length)

/-- Entry to NO_PAPER (R117). -/
def State.enterNoPaper (s : State) (d : Desk) : State :=
  (s.modSpooler d fun x =>
    { x with state := .noPaper, strobed := false, waitTimer := none, gapTimer := none }).notifyPrinter d .noPaper

/-- Entry to STALLED (R116). -/
def State.enterStalled (s : State) (d : Desk) : State :=
  (s.modSpooler d fun x =>
    { x with state := .stalled, strobed := false, waitTimer := none, gapTimer := none }).notifyPrinter d .stalled

/-- Entry to IDLE: driven, no character outstanding. -/
def Spooler.idled (x : Spooler) : Spooler :=
  { x with
    state := .idle, text := [], posLine := 0, posChar := 0, strobed := false, waitTimer := none, gapTimer := none }

/-- The head slip's printing started, or IDLE on an empty spool, without a notice (R115). -/
def State.printHead (s : State) (d : Desk) : State :=
  match (s.desk d).spooler.spool with
  | x :: _ => s.startPrinting d x
  | [] => s.modSpooler d Spooler.idled

/-- The printer state that printing the head gives (R115, R117; PRINTING is reported: log 10). -/
def headState (spool : List Slip) : PrinterState := if spool.isEmpty then .idle else .printing

/-- The head slip restarted, or IDLE, with PRINTER_STATE carrying the new state (R117). -/
def State.resumeHead (s : State) (d : Desk) : State :=
  let st := headState (s.desk d).spooler.spool
  (s.printHead d).notifyPrinter d st

/-! ## The spool -/

/-- The capacity of a spool (R109). -/
def spoolCapacity : Nat := 16

/-- The kind of a slip (R105). -/
def SlipBody.kind : SlipBody → SlipKind
  | .loan _ _ => .loan
  | .route _ _ => .route
  | .payment _ _ => .payment

/-- The borrower SLIP_LOST names, for a LOAN slip (R109). -/
def SlipBody.borrower? : SlipBody → Option Nat
  | .loan b _ => some b
  | .route _ _ => none
  | .payment _ _ => none

/-- A slip that met a full spool: discarded, counted and noticed (R109). -/
def State.loseSlip (s : State) (x : Slip) : State :=
  (s.addLostSlips x.desk 1).notify (deskPort x.desk) (.slipLost .spoolFull 1 (some x.body.kind) x.body.borrower?)

/-- A slip appended to its desk's spool, an IDLE printer beginning it at once (R109, R113). -/
def State.appendSlip (s : State) (x : Slip) : State :=
  let s1 := s.modSpooler x.desk fun sp => { sp with spool := sp.spool ++ [x] }
  if (s.desk x.desk).spooler.state = .idle then s1.printHead x.desk else s1

/-- The spool of a desk has no room (R109). -/
def State.spoolFull (s : State) (d : Desk) : Bool := spoolCapacity ≤ (s.desk d).spooler.spool.length

/-- A slip offered to its desk's spool (R109). The slip is lost exactly when the spool was full. -/
def State.offerSlip (s : State) (x : Slip) : State :=
  if s.spoolFull x.desk then s.loseSlip x else s.appendSlip x

/-- The spool of a desk emptied, its slips counted lost under one SLIP_LOST notice (R118, R119). -/
def State.discardSpool (s : State) (d : Desk) (cause : LostCause) : State :=
  let n := (s.desk d).spooler.spool.length
  if n = 0 then s
  else
    ((s.modSpooler d fun x => { x with spool := [] }).addLostSlips d n).notify (deskPort d)
      (.slipLost cause n none none)

/-! ## The open slip -/

/-- The LOAN slip made from an open slip (R106). -/
def OpenSlip.slip (o : OpenSlip) (d : Desk) : Slip :=
  { desk := d, day := o.day, time := o.time, body := .loan o.borrower o.lines }

/-- The slip status of a cut now: none where the open slip is empty, else whether its slip would be lost (R106). -/
def State.cutLoses (s : State) (d : Desk) : Option Bool :=
  match (s.desk d).ctx.openSlip with
  | none => none
  | some _ => some (s.spoolFull d)

/-- A cut (R106). -/
def State.cut (s : State) (d : Desk) : State :=
  match (s.desk d).ctx.openSlip with
  | none => s
  | some o => (s.modCtx d fun x => { x with openSlip := none, gather := none }).offerSlip (o.slip d)

/-- The most lines an open slip gathers before it is cut (R107). -/
def maxLines : Nat := 8

/-- The first cut of a line: the open slip is for another borrower (R107). -/
def State.cutForOther (s : State) (d : Desk) (borrower : Nat) : Bool :=
  match (s.desk d).ctx.openSlip with
  | none => false
  | some o => o.borrower != borrower

/-- A line joining the open slip, or opening one, with the gather timer started afresh (R107). -/
def State.joinLine (s : State) (d : Desk) (l : SlipLine) (borrower day time : Nat) : State :=
  s.modCtx d fun x =>
    { x with
      openSlip := some (match x.openSlip with
        | none => { borrower, day, time, lines := [l] }
        | some o => { o with lines := o.lines ++ [l] })
      gather := some (s.terms d).gatherTime }

/-- The open slip of a desk holds its eighth line (R107). -/
def State.slipFull (s : State) (d : Desk) : Bool :=
  match (s.desk d).ctx.openSlip with
  | none => false
  | some o => maxLines ≤ o.lines.length

/-- The open slip after the first cut of a line, if the line makes one (R107). -/
def State.afterOtherCut (s : State) (d : Desk) (borrower : Nat) : State :=
  if s.cutForOther d borrower then s.cut d else s

/-- A LOAN line handed to a desk's open slip (R107). -/
def State.addLine (s : State) (d : Desk) (l : SlipLine) (borrower day time : Nat) : State :=
  let s1 := (s.afterOtherCut d borrower).joinLine d l borrower day time
  if s1.slipFull d then s1.cut d else s1

/-- A slip was lost by the cuts of a line (R87, R107). -/
def State.lineLoses (s : State) (d : Desk) (l : SlipLine) (borrower day time : Nat) : Bool :=
  let first := s.cutForOther d borrower && s.spoolFull d
  let s1 := (s.afterOtherCut d borrower).joinLine d l borrower day time
  first || (s1.slipFull d && s1.spoolFull d)

end Sys2Proof.Machine
end

