-- ==== Sys2Proof/Machine/Desks.lean ====
section
/-! DEFINITION. The desk contexts and the wand states: the wand state by mode, presence and part state (R11 to R13),
binding (R18), unbinding (R19), the idle timer (R20), the scan queue (R24) and the arrival of a label (R17). -/

namespace Sys2Proof.Machine

/-! ## Wand states -/

/-- The hold time of PRESENCE_HOLD, in seconds (R12). -/
def holdTime : Nat := 30

/-- The wand state by the table of R11. -/
def wandStateBy (part : PartState) (mode : WandMode) (presence : Presence) (holding : Bool) : WandState :=
  if !part.desksServe then .off
  else match mode, presence with
    | .off, _ => .off
    | .on, _ => .active
    | .presence, .asserted => .active
    | .presence, .released => .standby
    | .presenceHold, .asserted => .active
    | .presenceHold, .released => if holding then .active else .standby

/-- A scan abandoned without a misread: the decoder's framing back at its QUIET_WAIT values (R4, R11). -/
def Wand.abandon (w : Wand) : Wand := { w with phase := .quietWait, elements := [], count := 0 }

/-- The wand takes a state: a scan is abandoned on leaving Active, and on entry to Active the line's level is taken
(R4, R11, R13). -/
def Wand.toState (w : Wand) (st : WandState) (line : LineLevel) : Wand :=
  match w.state, st with
  | .active, .active => w
  | .active, _ => { w.abandon with state := st }
  | _, .active => { w.abandon with state := st, line := line }
  | _, _ => { w with state := st }

/-- The wand state re-evaluated by R11 (R13). -/
def State.evalWand (s : State) (d : Desk) : State :=
  let x := s.desk d
  s.modWand d fun w =>
    w.toState (wandStateBy s.control.part (s.terms d).wandMode x.ctx.presence w.hold.isSome) x.lines.wand

/-- The hold timer stopped (R12). -/
def Wand.stopHold (w : Wand) : Wand := { w with hold := none }

/-- Both wands Off, hold timers stopped, as at entry to a part state in which the desks do not serve (R11, R12). -/
def State.wandsOff (s : State) : State :=
  ((s.modWand .console fun w => w.stopHold.toState .off s.console.lines.wand).modWand .kiosk fun w =>
    w.stopHold.toState .off s.kiosk.lines.wand)

/-- A wand mode changed by a DESK_TERMS commit; the new mode stands in the policy (R12, R13). -/
def State.wandModeChanged (s : State) (d : Desk) : State :=
  let x := s.desk d
  let hold :=
    if (s.terms d).wandMode = .presenceHold ∧ x.ctx.presence = .released ∧ x.wand.state = .active then some holdTime
    else none
  (s.modWand d fun w => { w with hold := hold }).evalWand d

/-! ## Misreads -/

/-- A misread counted and recorded in every copy (R9, R14). -/
def State.misread (s : State) (d : Desk) (m : Misread) : State :=
  s.modWandCopies d fun c => { c with misread := satAdd c.misread 1, lastMisread := some m }

/-! ## The idle timer -/

/-- The idle timer restarted where the given borrower is the desk's current borrower (R20). A commit for a borrower who was
unbound and then bound again restarts it too: the numbers alone are compared (log 40). -/
def State.restartIdle (s : State) (d : Desk) (borrower : Nat) : State :=
  match (s.desk d).ctx.bound with
  | some b => if b.borrower = borrower then s.modCtx d fun x => { x with idle := some (s.terms d).idleTime } else s
  | none => s

/-! ## Binding -/

/-- A borrower made current, or read again: the idle timer starts afresh and BORROWER_BOUND is placed (R18). -/
def State.setBound (s : State) (d : Desk) (b : Binding) : State :=
  (s.modCtx d fun x => { x with bound := some b, idle := some (s.terms d).idleTime }).notify (deskPort d)
    (.borrowerBound b.borrower b.time)

/-- A bind (R18). -/
def State.bind (s : State) (d : Desk) (number time : Nat) : State :=
  match (s.desk d).ctx.bound with
  | none => s.setBound d { borrower := number, time := time }
  | some b =>
    if b.borrower = number then s.setBound d b
    else (s.cut d).setBound d { borrower := number, time := time }

/-- The current borrower cleared and BORROWER_UNBOUND placed; nothing where no borrower is bound (R19 steps 2, 3). -/
def State.clearBound (s : State) (d : Desk) (cause : UnbindCause) : State :=
  match (s.desk d).ctx.bound with
  | none => s
  | some b =>
    (s.modCtx d fun x => { x with bound := none, idle := none }).notify (deskPort d)
      (.borrowerUnbound b.borrower cause)

/-- The cut of the open slip and the unbind of a bound borrower, in R19's order; with no borrower bound, the cut alone
(R19, R22, R23). -/
def State.unbindOrCut (s : State) (d : Desk) (cause : UnbindCause) : State := (s.cut d).clearBound d cause

/-- An unbind by a cause that does not act on an unbound desk (R19, R20, R21). -/
def State.unbindIfBound (s : State) (d : Desk) (cause : UnbindCause) : State :=
  if (s.desk d).ctx.bound.isSome then s.unbindOrCut d cause else s

/-! ## The scan queue -/

/-- The capacity of a scan queue (R24). -/
def scanCapacity : Nat := 8

/-- A label report joins the scan queue (R24). -/
def State.queueLabel (s : State) (d : Desk) (r : LabelReport) : State :=
  let q := (s.desk d).ctx.queue
  if q.length < scanCapacity then
    let s1 := s.modCtx d fun x => { x with queue := x.queue ++ [r] }
    if q.isEmpty then s1.notify (deskPort d) (.scanReady r.kind r.number) else s1
  else
    match (s.terms d).overflow with
    | .keepOldest => s.modCtx d fun x => { x with overflow := true }
    | .keepNewest => s.modCtx d fun x => { x with overflow := true, queue := x.queue.drop 1 ++ [r] }

/-- A label report arrives at its desk context (R17). -/
def State.labelArrives (s : State) (d : Desk) (r : LabelReport) : State :=
  if !s.control.part.desksServe then s
  else match r.kind with
    | .item => s.queueLabel d r
    | .borrower =>
      if (s.terms d).autoBind then
        if s.control.part = .open then s.bind d r.number r.time else s
      else s.queueLabel d r

/-- The entry a take removes: the oldest, which becomes the last taken label (R25, R26). -/
def State.takeLabel (s : State) (d : Desk) : State :=
  s.modCtx d fun x => { x with queue := x.queue.drop 1, lastTaken := x.queue.head?.or x.lastTaken }

end Sys2Proof.Machine
end

