-- ==== Sys2Proof/Machine/Control.lean ====
section
/-! DEFINITION. The Part State Controller (chapter 10) and the closing drain (R118): the entries to OPEN, CLOSING and
NIGHT (R148, R150), the desk hours (R149), the sweep marks (R54), the battery sample (R155), the sweep pass's beginning
(R98) and the loss of volatile state (R151). -/

namespace Sys2Proof.Machine

/-- Change the controller. -/
def State.modControl (s : State) (f : Control → Control) : State := { s with control := f s.control }

/-- The part state taken, without its effects. -/
def State.setPart (s : State) (st : PartState) : State := s.modControl fun c => { c with part := st }

/-! ## The closing drain -/

/-- A desk whose spool is empty and whose printer is IDLE (R118). -/
def State.deskDrained (s : State) (d : Desk) : Bool :=
  (s.desk d).spooler.spool.isEmpty && (s.desk d).spooler.state == .idle

/-- A printer at the end of the drain: one in PRINTING, WAITING or STALLED enters IDLE (R118), with paper-out asserted too,
and a slip offered to it then is strobed (log 39). -/
def Spooler.drained (x : Spooler) : Spooler :=
  match x.state with
  | .printing | .waiting | .stalled => x.idled
  | .off | .idle | .gap | .noPaper => x

/-- The end of the drain at one desk: only a spool that holds slips is acted on (R118). -/
def State.drainDesk (s : State) (d : Desk) : State :=
  if (s.desk d).spooler.spool.isEmpty then s else (s.discardSpool d .drain).modSpooler d Spooler.drained

/-- The end of the closing drain (R118). -/
def State.endDrain (s : State) : State :=
  ((s.drainDesk .console).drainDesk .kiosk).modControl fun c => { c with drainEnded := true }

/-- The drain ends at the event that leaves both spools empty and both printers IDLE (R118). -/
def State.drainCheck (s : State) : State :=
  if s.control.part = .closing ∧ s.control.drainEnded = false ∧ s.deskDrained .console ∧ s.deskDrained .kiosk then
    s.endDrain
  else s

/-! ## Desk hours -/

/-- Today is open (R58). -/
def State.todayOpen (s : State) : Bool := s.policy.data.calendar.isOpen s.clock.today

/-- The time of day is within hours (R149). -/
def State.withinHours (s : State) : Bool :=
  s.policy.data.desks.opening ≤ s.clock.time && s.clock.time < s.policy.data.desks.closing

/-! ## Entries -/

/-- A printer at entry to OPEN: IDLE, or NO_PAPER (R117, R119). Its data lines are driven again with a value that the
manual does not give, and hold no character (log 23). -/
def State.printerOpens (s : State) (d : Desk) : State :=
  let s1 := s.modSpooler d Spooler.idled
  if (s.desk d).lines.paperOut then s1.enterNoPaper d else s1

/-- Entry to OPEN (R148): the wands by R11 and R13, the printers, then PART_STATE. -/
def State.enterOpen (s : State) : State :=
  ((((((s.setPart .open).evalWand .console).evalWand .kiosk).printerOpens .console).printerOpens .kiosk).notifyAll
    (.partState .open))

/-- A desk context at entry to NIGHT, after its cut (R23, R29). -/
def DeskContext.night (x : DeskContext) : DeskContext :=
  { x with bound := none, idle := none, queue := [], lastTaken := none, gather := none }

/-- A printer OFF: timers stopped, position cleared, lines not driven (R119). -/
def Spooler.toOff (x : Spooler) : Spooler := { x.idled with state := .off, dataLines := none }

/-- A desk at entry to NIGHT: the cut, the context emptied, the spool discarded, the printer OFF (R23, R119). -/
def State.deskNight (s : State) (d : Desk) : State :=
  (((s.cut d).modCtx d DeskContext.night).discardSpool d .night).modSpooler d Spooler.toOff

/-- Entry to NIGHT up to its PART_STATE (R23, R119, R148, R150). The opening-pending mark is cleared. -/
def State.nightEffects (s : State) : State :=
  (((((s.setPart .night).wandsOff).deskNight .console).deskNight .kiosk).modControl fun c =>
    { c with drainTimer := none, drainEnded := false, openingPending := false }).notifyAll (.partState .night)

/-- An opening event in NIGHT (R149). -/
def State.openIfDue (s : State) : State := if s.todayOpen && s.withinHours then s.enterOpen else s

/-- Entry to NIGHT; with the opening-pending mark set, an opening event follows (R149). -/
def State.enterNight (s : State) : State :=
  if s.control.openingPending then s.nightEffects.openIfDue else s.nightEffects

/-- A desk request is waiting at the engine or being served (R150). -/
def State.deskRequest (s : State) : Bool :=
  s.engine.waiting.console || s.engine.waiting.kiosk
    || match s.engine.serving with
      | some v => v.who == .console || v.who == .kiosk
      | none => false

/-- The passage to NIGHT, at the event that makes its condition true (R150). -/
def State.passage (s : State) : State :=
  if s.control.part = .closing ∧ s.control.drainEnded = true ∧ s.deskRequest = false then s.enterNight else s

/-- The drain's end and the passage to NIGHT, where this event has completed either (R118, R150). -/
def State.settle (s : State) : State := s.drainCheck.passage

/-- Entry to CLOSING (R23, R118, R148, R150): the desks, the drain, PART_STATE, then the passage if nothing holds it. -/
def State.enterClosing (s : State) : State :=
  let s1 := (s.setPart .closing).modControl fun c => { c with drainTimer := some 60, drainEnded := false }
  let s2 := (s1.unbindOrCut .console .closing).unbindOrCut .kiosk .closing
  (s2.drainCheck.notifyAll (.partState .closing)).passage

/-- An opening event (R149). -/
def State.openingEvent (s : State) : State :=
  match s.control.part with
  | .night => s.openIfDue
  | .closing => s.modControl fun c => { c with openingPending := true }
  | .open | .starting | .retaining => s

/-- A closing event (R149). -/
def State.closingEvent (s : State) : State := if s.control.part = .open then s.enterClosing else s

/-- The re-evaluation of the desk hours (R149). -/
def State.reevaluate (s : State) : State :=
  match s.control.part with
  | .night => if !s.clock.dateUnset && s.todayOpen && s.withinHours then s.enterOpen else s
  | .open => if !s.todayOpen || !s.withinHours then s.enterClosing else s
  | .closing | .starting | .retaining => s

/-! ## Sweep marks -/

/-- A sweep pass is running (R98). -/
def State.passRunning (s : State) : Bool := s.sweep.state != .idle

/-- The sweep marks set at a day change (R54). -/
def State.markSweep (s : State) : State :=
  if s.passRunning then { s with clock := { s.clock with sweepRepeat := true } }
  else { s with clock := { s.clock with sweepPending := true } }

/-! ## Battery -/

/-- The battery-sampling time, in seconds (R155). -/
def batteryTime : Nat := 60

/-- A battery sample (R155). -/
def State.sampleBattery (s : State) (below : Bool) : State :=
  let s1 := s.modControl fun c => { c with batteryLow := below, batteryTimer := some batteryTime }
  if below && !s.control.batteryLow then s1.notifyConsoleUplink .batteryLow else s1

/-! ## Loss of volatile state -/

/-- A desk's volatile values lost; the input lines stay what they are (R15, R29, R119, R151). -/
def DeskSide.lost (x : DeskSide) : DeskSide :=
  { x with wand := Wand.start, ctx := { DeskContext.start with presence := x.ctx.presence }, spooler := Spooler.start }

/-- Every volatile value of the part lost (R151). The presence states go on following their inputs (R16; log 26). -/
def State.loseVolatile (s : State) : State :=
  { s with
    control :=
      { s.control with
        openingPending := false, drainTimer := none, drainEnded := false, batteryLow := false, batteryTimer := none,
        startUp := StartUp.start }
    clock := { s.clock with sweepPending := false, sweepRepeat := false }
    engine := Engine.start
    sweep := Sweep.start
    scrub := Scrub.start
    journal := { s.journal with cursor := s.journal.head, window := 0, waitingDates := [] }
    console := s.console.lost
    kiosk := s.kiosk.lost
    consolePort := PortState.start
    kioskPort := PortState.start
    uplinkPort := PortState.start
    shares := Shares.start }

end Sys2Proof.Machine
end

