-- ==== Sys2Proof/Machine/Grants.lean ====
section
/-! DEFINITION. The checks made at a grant, in their order: the common checks (R68), CHECKOUT (R69 to R71), RETURN
(R75), RENEW (R77), FINE_PAY (R81), BORROWER_ADD (R82), ITEM_FLAG_SET (R83), the queries (R84, R85), POLICY_LOAD (R144)
and the first step of a burst (R133, R140 to R142). A grant samples today, the time of day and the policy (R94), which
are the state's own at that moment. -/

namespace Sys2Proof.Machine

/-- What the checks of a grant come to: the operation is served with what they found, or refused. -/
inductive GrantResult where
  | serve (plan : Plan)
  | refuse (code : ReplyCode) (values : List Field)
  deriving DecidableEq, Repr

/-- The first SUSPECT table of a list refuses with TABLE_SUSPECT, naming it (R68, R133). -/
def State.healthRefusal (s : State) (ts : List TableId) : Option (ReplyCode × List Field) :=
  (s.firstSuspect ts).map fun t => (.tableSuspect, [.small t.ctorIdx])

/-- The checks of part state, date and health of a circulation request (R68). -/
def State.commonRefusal (s : State) (ts : List TableId) : Option (ReplyCode × List Field) :=
  if !s.control.part.desksServe then some (.deskClosed, [])
  else if s.clock.dateUnset then some (.dateUnset, [])
  else s.healthRefusal ts

/-- The occupancy below which a lending entry of a desk may be granted (R71, R77, R123). -/
def lendingMark : Desk → Nat
  | .console => criticalMark
  | .kiosk => pressedMark

/-- Step 9 of a CHECKOUT: the exception entry's refusal, tested in the order of R70. -/
def exceptionRefusal (e : Option ExceptionRecord) (d : Desk) (borrower : Nat) : Option ReplyCode :=
  match e with
  | none => none
  | some e =>
    if e.notLoanable then some .itemNotLoanable
    else if e.holdFor.isSome && e.holdFor != some borrower then some .itemHeld
    else if e.missing && d == .kiosk then some .itemMissing
    else none

/-- Steps 12 and 13 of a CHECKOUT: whether it is an implicit return, or the refusal (R71). -/
def State.loanStep (s : State) (d : Desk) (borrower item : Nat) : Except ReplyCode Bool :=
  match s.loan? item with
  | none => if s.loanSlotFree then .ok false else .error .tableFull
  | some l =>
    if l.borrower = borrower then .error .alreadyOnLoan
    else if d = .kiosk then .error .onLoanElsewhere
    else if s.journal.occupancy < criticalMark - 1 then .ok true
    else .error .journalFull

/-- Steps 9 to 13 of a CHECKOUT whose borrower passed, and the due day (R70, R71). -/
def State.checkoutItemGrant (s : State) (d : Desk) (r : BorrowerRecord) (item : Nat) (bypassed : Bool) : GrantResult :=
  let p := s.policy.data
  let e := s.exception? item
  match exceptionRefusal e d r.number with
  | some code => .refuse code []
  | none =>
    let itemClass := s.classOfItem p d item
    let period := (p.cell itemClass r.category).period
    if period = 0 then .refuse .itemNotLoanable []
    else if ¬ s.journal.occupancy < lendingMark d then .refuse .journalFull []
    else match s.loanStep d r.number item with
      | .error code => .refuse code []
      | .ok isImplicit =>
        .serve (.checkout
          { borrower := r.number, item, itemClass, bypassed, isImplicit
            dueDay := p.calendar.dueDay s.clock.today period r.expiryDay
            clearHold := (e.bind (·.holdFor)).isSome
            clearMissing := (e.map (·.missing)).getD false })

/-- The grant of a CHECKOUT (R68 to R71). -/
def State.checkoutGrant (s : State) (d : Desk) (borrower item : Nat) (overriding : Bool) : GrantResult :=
  match s.commonRefusal [.borrowers, .loans, .items, .policy] with
  | some (code, values) => .refuse code values
  | none =>
    match s.borrower? borrower with
    | none => .refuse .unknownBorrower []
    | some r =>
      match checkoutVerdict r (s.policy.data.categoryOf r.category) s.clock.today overriding with
      | .refuse code values => .refuse code values
      | .pass bypassed => s.checkoutItemGrant d r item bypassed

/-- The grant of a RETURN (R68, R75). -/
def State.returnGrant (s : State) (d : Desk) : GrantResult :=
  match s.commonRefusal (if d = .kiosk then [.loans] else []) with
  | some (code, values) => .refuse code values
  | none => if s.journal.occupancy < journalCapacity then .serve .plain else .refuse .journalFull []

/-- Steps 9 to 13 of a RENEW (R77). -/
def State.renewItemGrant (s : State) (d : Desk) (r : BorrowerRecord) (l : LoanRecord) (bypassed : Bool) :
    GrantResult :=
  let p := s.policy.data
  let cell := p.cell l.itemClass r.category
  let newDue := p.calendar.dueDay s.clock.today cell.period r.expiryDay
  if ((s.exception? l.item).bind (·.holdFor)).isSome then .refuse .itemHeld []
  else if cell.renewalLimit ≤ l.renewals then .refuse .renewLimit []
  else if cell.period = 0 then .refuse .itemNotLoanable []
  else if ¬ s.journal.occupancy < lendingMark d then .refuse .journalFull []
  else if newDue ≤ l.dueDay then .refuse .renewNoGain []
  else .serve (.renew { borrower := r.number, item := l.item, newDue, bypassed })

/-- The grant of a RENEW (R68, R77). -/
def State.renewGrant (s : State) (d : Desk) (borrower item : Nat) (overriding : Bool) : GrantResult :=
  match s.commonRefusal [.borrowers, .loans, .items, .policy] with
  | some (code, values) => .refuse code values
  | none =>
    match s.loan? item with
    | none => .refuse .notOnLoan []
    | some l =>
      if l.borrower ≠ borrower then .refuse .notOnLoan []
      else match s.borrower? borrower with
        | none => .refuse .unknownBorrower []
        | some r =>
          match blockVerdict r (s.policy.data.categoryOf r.category) s.clock.today overriding with
          | .refuse code values => .refuse code values
          | .pass bypassed => s.renewItemGrant d r l bypassed

/-- The journal check of the account requests (R81, R82, R83). -/
def State.roomForAccount (s : State) : Bool := s.journal.occupancy < criticalMark

/-- The grant of a FINE_PAY (R68, R81). -/
def State.finePayGrant (s : State) (borrower : Nat) : GrantResult :=
  match s.commonRefusal [.borrowers] with
  | some (code, values) => .refuse code values
  | none =>
    if (s.borrower? borrower).isNone then .refuse .unknownBorrower []
    else if s.roomForAccount then .serve .plain else .refuse .journalFull []

/-- The grant of a BORROWER_ADD (R68, R82). -/
def State.borrowerAddGrant (s : State) (borrower : Nat) : GrantResult :=
  match s.commonRefusal [.borrowers, .policy] with
  | some (code, values) => .refuse code values
  | none =>
    match s.borrower? borrower with
    | some r => .refuse .alreadyExists [.small r.origin.ctorIdx]
    | none =>
      if !s.roomForAccount then .refuse .journalFull []
      else if s.borrowerSlotFree then .serve .plain else .refuse .tableFull []

/-- The grant of an ITEM_FLAG_SET (R68, R83). -/
def State.itemFlagGrant (s : State) (item : Nat) (set : Bool) : GrantResult :=
  match s.commonRefusal [.items] with
  | some (code, values) => .refuse code values
  | none =>
    if !s.roomForAccount then .refuse .journalFull []
    else if (s.exception? item).isNone && set && !s.exceptionSlotFree then .refuse .tableFull []
    else .serve .plain

/-- The first step of a burst: NIGHT where the burst is NIGHT-only, then the healths it requires (R133). -/
def State.burstGrant (s : State) (nightOnly : Bool) (ts : List TableId) : GrantResult :=
  if nightOnly && s.control.part != .night then .refuse .notInNight []
  else match s.healthRefusal ts with
    | some (code, values) => .refuse code values
    | none => .serve .plain

/-- The desk a port's circulation request acts at. Requests of the Uplink port that need a desk are refused before
they reach the engine (R162), so the value given for it is not used. -/
def portDeskOr : Port → Desk
  | .console => .console
  | .kiosk => .kiosk
  | .uplink => .console

/-- The checks at the grant of a port's operation, or of the first step of its burst. -/
def State.grantCheck (s : State) (p : Port) : EngineOp → GrantResult
  | .checkout borrower item overriding => s.checkoutGrant (portDeskOr p) borrower item overriding
  | .returnItem _ => s.returnGrant (portDeskOr p)
  | .renew borrower item overriding => s.renewGrant (portDeskOr p) borrower item overriding
  | .borrowerQuery _ => .serve .plain
  | .loansList _ _ => .serve .plain
  | .finePay borrower _ => s.finePayGrant borrower
  | .borrowerAdd borrower _ => s.borrowerAddGrant borrower
  | .itemFlagSet item _ set => s.itemFlagGrant item set
  | .policyLoad _ => .serve .plain
  | .borrowerLoad _ _ => s.burstGrant false []
  | .itemFlagsLoad _ _ => s.burstGrant false []
  | .loanLoad _ _ => s.burstGrant true [.borrowers, .loans]
  | .markAll _ _ => s.burstGrant true [.borrowers]
  | .purgeMarked _ _ _ => s.burstGrant true [.borrowers, .loans]
  | .clearLoans _ _ _ _ => s.burstGrant true []
  | .clearItems _ _ => s.burstGrant true []
  | .rebuildBorrowers _ _ _ _ _ => s.burstGrant true []

/-- What the grant of a burst's first step does to its table's health (R140 to R142). -/
def State.grantEffect (s : State) : EngineOp → State
  | .clearLoans _ _ _ _ => s.tableFault .loans .clearing none
  | .clearItems _ _ => s.tableFault .items .clearing none
  | .rebuildBorrowers _ _ _ _ _ => s.tableFault .borrowers .rebuilding none
  | .checkout _ _ _ | .returnItem _ | .renew _ _ _ | .borrowerQuery _ | .loansList _ _ | .finePay _ _
  | .borrowerAdd _ _ | .itemFlagSet _ _ _ | .policyLoad _ | .borrowerLoad _ _ | .itemFlagsLoad _ _ | .loanLoad _ _
  | .markAll _ _ | .purgeMarked _ _ _ => s

end Sys2Proof.Machine
end

