-- ==== Sys2Proof/Machine/Engine.lean ====
section
/-! DEFINITION. The Table Engine as arbiter (chapter 6): levels (R89), grants (R91, R94), step boundaries and yield sets
(R93), what happens when the engine becomes FREE (R91, R124, R150), and the sweep's joining and resuming (R98, R100). -/

namespace Sys2Proof.Machine

/-- Change the engine. -/
def State.modEngine (s : State) (f : Engine → Engine) : State := { s with engine := f s.engine }

/-- The level of a requester, read from the desk terms whatever the policy's health (R89). -/
def State.level (s : State) : Requester → Nat
  | .console => s.policy.data.desks.levelConsole
  | .kiosk => s.policy.data.desks.levelKiosk
  | .sweep => s.policy.data.desks.levelSweep
  | .uplink => s.policy.data.desks.levelUplink
  | .scrubber => 7

/-- A waiting requester whose yield set is empty (R91). -/
def Engine.eligible (e : Engine) (r : Requester) : Bool := e.waiting.get r && (members (e.yields.get r)).isEmpty

/-- The first of two requesters of a list in tie order: the lower level, the earlier among equals (R91). -/
def State.better (s : State) (best : Option Requester) (r : Requester) : Option Requester :=
  match best with
  | none => some r
  | some b => if s.level r < s.level b then some r else some b

/-- The requester a grant decision picks (R91). -/
def State.pick (s : State) : Option Requester := (tieOrder.filter s.engine.eligible).foldl s.better none

/-- The engine SERVING a requester, with the samples of R94. -/
def State.serve (s : State) (r : Requester) (plan : Plan) : State :=
  s.modEngine fun e =>
    { e with
      serving := some { who := r, day := s.clock.today, time := s.clock.time, policy := s.policy.data, plan := plan } }

/-- A scrub pass begins at the grant of the step that starts at slot 0 (R157). -/
def State.beginScrubPass (s : State) : State :=
  if s.scrub.cursor ≠ 0 then s
  else
    let m := s.scrub.disturbed
    let m := match s.scrub.table with
      | .borrowers => { m with borrowers := false }
      | .loans => { m with loans := false }
      | .items => { m with items := false }
      | .policy => { m with policy := false }
    { s with scrub := { s.scrub with passSum := 0, disturbed := m } }

/-- A port's burst has been granted its first step (R95). -/
def State.markStarted (s : State) (p : Port) : State :=
  s.modPort p fun q => { q with inFlight := q.inFlight.map fun fl => { fl with started := true } }

/-- The grant of a port's operation or step: its checks where none has been granted before, then SERVING; a refusal
replies at once and leaves the engine FREE (R66, R91, R95). -/
def State.grantPort (s : State) (p : Port) : State :=
  match (s.port p).inFlight with
  | none => s
  | some fl =>
    match fl.op with
    | none => s
    | some op =>
      if fl.started then s.serve (portRequester p) .plain
      else match s.grantCheck p op with
        | .refuse code values => s.refuse p code values
        | .serve plan => ((s.grantEffect op).markStarted p).serve (portRequester p) plan

/-- A grant: the requester leaves the waiting set and every yield set that holds it (R91, R93). The engine is SERVING
afterwards unless the grant's checks refused the request. -/
def State.grantTo (s : State) (r : Requester) : State :=
  let s1 := s.modEngine fun e => e.withdraw r
  match requesterPort r with
  | some p => s1.grantPort p
  | none =>
    match r with
    | .sweep => ({ s1 with sweep := { s1.sweep with state := .served } }).serve .sweep .plain
    | _ => s1.beginScrubPass.serve .scrubber .plain

/-- The engine becomes FREE: the waiting DATE_SET entries are tested (R124), the passage to NIGHT is looked at (R150),
then a grant decision is made, again after each refusal at a grant (R91). At most three ports can be refused, so six
rounds are enough (log 12). -/
def State.freeLoop : Nat → State → State
  | 0, s => s
  | n + 1, s =>
    let s1 := (s.modEngine fun e => { e with serving := none }).flushDates.settle
    match s1.pick with
    | none => s1
    | some r =>
      let s2 := s1.grantTo r
      if s2.engine.serving.isSome then s2 else s2.freeLoop n

/-- The engine becomes FREE (R91). -/
def State.becomeFree (s : State) : State := s.freeLoop 6

/-- A requester begins waiting: granted at once while the engine is FREE (R90, R91). -/
def State.requestEngine (s : State) (r : Requester) : State :=
  let s1 := s.modEngine fun e => { e with waiting := e.waiting.set r true }
  if s.engine.serving.isSome then s1
  else
    let s2 := s1.grantTo r
    if s2.engine.serving.isSome then s2 else s2.becomeFree

/-- The end of a burst's step that is not its last: its yield set is every other requester waiting (R93). It replaces the
set of the last such step, and is empty where no other waits. -/
def State.recordYield (s : State) (r : Requester) : State :=
  s.modEngine fun e => { e with yields := e.yields.set r (e.waiting.set r false) }

/-- A step boundary: the burst yields to every other requester waiting and waits for its next step (R93). With no other
waiting its yield set is empty, and the grant decision takes it again at once. -/
def State.boundary (s : State) (r : Requester) : State :=
  ((s.recordYield r).modEngine fun e => { e with waiting := e.waiting.set r true }).becomeFree

/-- The engine's move at the end of what it served: a step boundary where the burst goes on, else FREE. -/
def State.conclude (s : State) (r : Requester) (goesOn : Bool) : State :=
  if goesOn then s.boundary r else s.becomeFree

/-- A sweep pass begins where sweep-pending is set, no pass runs and the part serves (R98). -/
def State.beginPassIfDue (s : State) : State :=
  if s.clock.sweepPending && !s.passRunning && s.control.part.running then
    ({ s with
       clock := { s.clock with sweepPending := false }
       sweep := { state := .requesting, cursor := 0, firstBatch := true } }).requestEngine .sweep
  else s

/-- A STALLED sweep becomes REQUESTING where the occupancy is below 2,304 (R100, R129). -/
def State.resumeSweep (s : State) : State :=
  if s.sweep.state = .stalled ∧ s.journal.occupancy < pressedMark then
    ({ s with sweep := { s.sweep with state := .requesting } }).requestEngine .sweep
  else s

/-- The most DATE_SET entries that wait (R124). -/
def maxWaitingDates : Nat := 4

/-- A DATE_SET entry offered at acceptance (R124). -/
def State.offerDateEntry (s : State) (e : DateEntry) : State :=
  if s.engine.serving.isNone then s.offerDate e
  else if s.journal.waitingDates.length < maxWaitingDates then
    { s with journal := { s.journal with waitingDates := s.journal.waitingDates ++ [e] } }
  else s.addDateEntryLost

end Sys2Proof.Machine
end

