-- ==== Sys2Proof/Machine/Accept.lean ====
section
/-! DEFINITION. The judgement of a good frame (R161), the resolution of "current" and "from wand" (R25), and the
submission of an accepted request to the Table Engine (R67, R90). -/

namespace Sys2Proof.Machine

/-- The in-flight record of a request that has reached its own rule (R161). -/
def InFlight.new (tag : Byte) (code : ReqCode) : InFlight :=
  { tag, code, op := none, started := false, label := none, discard := false }

/-- The request made its port's in-flight request (R161). -/
def State.takeFlight (s : State) (p : Port) (tag : Byte) (code : ReqCode) : State :=
  s.modPort p fun q => { q with inFlight := some (InFlight.new tag code) }

/-- Steps 1, 3, 4 and 5 of R161: the code that answers the frame before the request's own rule. -/
def State.earlyAnswer (s : State) (p : Port) (code : ReqCode) (payload : List Byte) : Option ReplyCode :=
  if (s.port p).inFlight.isSome then some .busy
  else if !permitted code p then some .notPermitted
  else if s.control.part == .starting && code != .status then some .notReady
  else if !lengthAgrees code payload then some .badLength
  else none

/-- A good frame whose code names a request is judged by R161: an answer, or the request's own rule. In RETAINING no
rule but that of STATUS gives an answer, and the frame has no effect there (log 7). The receiver is left in HUNT. -/
def State.receive (s : State) (p : Port) (tag : Byte) (code : ReqCode) (payload : List Byte) (own : State → State) :
    State :=
  let s1 := s.modPort p fun q => { q with rx := .hunt }
  match s1.earlyAnswer p code payload with
  | some answer => s1.answer p tag code.byte answer
  | none =>
    if s1.control.part == .retaining && code != .status then s1 else own (s1.takeFlight p tag code)

/-! ## Refusals by part state -/

/-- The refusal of a desk transaction accepted in OPEN alone (R67). -/
def openOnly : PartState → Option ReplyCode
  | .open => none
  | .closing => some .deskClosing
  | .night | .starting | .retaining => some .deskClosed

/-- The refusal of a RETURN (R67). -/
def openOrClosing : PartState → Option ReplyCode
  | .open | .closing => none
  | .night | .starting | .retaining => some .deskClosed

/-- The refusal of a NIGHT-only download (R133). -/
def nightOnly : PartState → Option ReplyCode
  | .night => none
  | .open | .closing | .starting | .retaining => some .notInNight

/-! ## Resolution -/

/-- The current borrower of a desk. -/
def State.current (s : State) (d : Desk) : Option Nat := ((s.desk d).ctx.bound).map (·.borrower)

/-- What a named borrower resolves to at a desk (R25 step 1). -/
def State.resolveBorrower (s : State) (d : Desk) : Ref → Option Nat
  | .given n => some n
  | .standing => s.current d
  | .outOfRange => none

/-- What an item resolves to: a number, or the report of an ITEM label to be taken, or a refusal (R25 step 2). -/
inductive ItemResolution where
  | number (n : Nat)
  | fromWand (r : LabelReport)
  | noItem
  | wrongKind (r : LabelReport)
  deriving DecidableEq, Repr

/-- What a named item resolves to at a desk (R25 step 2). -/
def State.resolveItem (s : State) (d : Desk) : Ref → ItemResolution
  | .given n => .number n
  | .standing =>
    match (s.desk d).ctx.queue with
    | [] => .noItem
    | r :: _ => if r.kind = .item then .fromWand r else .wrongKind r
  | .outOfRange => .noItem

/-! ## Submission -/

/-- An accepted request goes to the Table Engine (R67, R90). -/
def State.submit (s : State) (p : Port) (op : EngineOp) : State := (s.setOp p op).requestEngine (portRequester p)

/-- The label report a request keeps for its reply (R25). -/
def State.keepLabel (s : State) (p : Port) (r : LabelReport) : State :=
  s.modPort p fun q => { q with inFlight := q.inFlight.map fun fl => { fl with label := some r } }

/-- The last part of the acceptance of CHECKOUT, RETURN and RENEW: the item resolved, then `accept` run on the item
(R25). -/
def State.withItem (s : State) (p : Port) (d : Desk) (item : Ref) (accept : Nat → State → State) : State :=
  match s.resolveItem d item with
  | .number n => accept n s
  | .fromWand r => accept r.number ((s.takeLabel d).keepLabel p r)
  | .noItem => s.refuse p .noItem []
  | .wrongKind r => (s.takeLabel d).refuse p .wrongKind [.raw r.bytes]

/-- The resolution of a borrower that may be "current", then `accept` on its number (R25). -/
def State.withBorrower (s : State) (p : Port) (d : Desk) (borrower : Ref) (accept : Nat → State → State) : State :=
  match s.resolveBorrower d borrower with
  | none => s.refuse p .noBorrower []
  | some b => accept b s

end Sys2Proof.Machine
end

