-- ==== Sys2Proof/Machine/Circulation.lean ====
section
/-! DEFINITION. The acceptance of the circulation requests (R25, R67): CHECKOUT, RETURN, RENEW, FINE_PAY, BORROWER_ADD,
ITEM_FLAG_SET, BORROWER_QUERY and LOANS_LIST. The order of the checks at acceptance: part state, ranges, the Kiosk's
override, resolution (log 18). -/

namespace Sys2Proof.Machine

open Host

/-- The override selector of CHECKOUT and RENEW (R168). -/
def overrideOf : Nat → Option Bool
  | 0 => some false
  | 1 => some true
  | _ => none

/-- The acceptance of CHECKOUT and RENEW: borrower 5 bytes, item 5 bytes, override 1 byte; `op` makes the engine's
operation (R25, R67, R168). -/
def acceptLending (op : Nat → Nat → Bool → EngineOp) (p : Port) (payload : List Byte) (s : State) : State :=
  let d := portDeskOr p
  let borrower := refAt payload 0
  let item := refAt payload 5
  match openOnly s.control.part with
  | some code => s.refuse p code []
  | none =>
    match overrideOf (at_ payload 10 1) with
    | none => s.refuse p .badField []
    | some overriding =>
      if borrower = .outOfRange ∨ item = .outOfRange then s.refuse p .badField []
      else if overriding && d == .kiosk then s.refuse p .notPermitted []
      else
        s.withBorrower p d borrower fun b s1 =>
          s1.withItem p d item fun i s2 => (s2.restartIdle d b).submit p (op b i overriding)

/-! ## CHECKOUT -/

/-- A CHECKOUT frame. -/
def onCheckout (p : Port) (tag : Byte) (payload : List Byte) (s : State) : State :=
  s.receive p tag .checkout payload (acceptLending EngineOp.checkout p payload)

/-- CHECKOUT (R67). -/
def execCheckout (p : Port) (tag : Byte) (payload : List Byte) (s : State) : Outcome State Fault Refusal :=
  .next (onCheckout p tag payload s)

/-! ## RENEW -/

/-- A RENEW frame. -/
def onRenew (p : Port) (tag : Byte) (payload : List Byte) (s : State) : State :=
  s.receive p tag .renew payload (acceptLending EngineOp.renew p payload)

/-- RENEW (R67). -/
def execRenew (p : Port) (tag : Byte) (payload : List Byte) (s : State) : Outcome State Fault Refusal :=
  .next (onRenew p tag payload s)

/-! ## RETURN -/

/-- The acceptance of a RETURN: item 5 bytes (R25, R67). -/
def ownReturn (p : Port) (payload : List Byte) (s : State) : State :=
  match openOrClosing s.control.part with
  | some code => s.refuse p code []
  | none =>
    if refAt payload 0 = .outOfRange then s.refuse p .badField []
    else s.withItem p (portDeskOr p) (refAt payload 0) fun i s1 => s1.submit p (.returnItem i)

/-- A RETURN frame. -/
def onReturn (p : Port) (tag : Byte) (payload : List Byte) (s : State) : State :=
  s.receive p tag .returnItem payload (ownReturn p payload)

/-- RETURN (R67). -/
def execReturnItem (p : Port) (tag : Byte) (payload : List Byte) (s : State) : Outcome State Fault Refusal :=
  .next (onReturn p tag payload s)

/-! ## FINE_PAY -/

/-- The acceptance of a FINE_PAY: borrower 5 bytes, amount 4 bytes, 1 to 999,999 (R67, R81). -/
def ownFinePay (p : Port) (payload : List Byte) (s : State) : State :=
  let d := portDeskOr p
  let amount := at_ payload 5 4
  match openOnly s.control.part with
  | some code => s.refuse p code []
  | none =>
    if refAt payload 0 = .outOfRange ∨ amount = 0 ∨ maxBalance < amount then s.refuse p .badField []
    else s.withBorrower p d (refAt payload 0) fun b s1 => (s1.restartIdle d b).submit p (.finePay b amount)

/-- A FINE_PAY frame. -/
def onFinePay (p : Port) (tag : Byte) (payload : List Byte) (s : State) : State :=
  s.receive p tag .finePay payload (ownFinePay p payload)

/-- FINE_PAY (R67). -/
def execFinePay (p : Port) (tag : Byte) (payload : List Byte) (s : State) : Outcome State Fault Refusal :=
  .next (onFinePay p tag payload s)

/-! ## BORROWER_ADD -/

/-- The acceptance of a BORROWER_ADD: borrower 5 bytes, by number, category 1 byte, 0 to 7 (R67, R82). -/
def ownBorrowerAdd (p : Port) (payload : List Byte) (s : State) : State :=
  let category := at_ payload 5 1
  match openOnly s.control.part with
  | some code => s.refuse p code []
  | none =>
    match refAt payload 0 with
    | .given b => if 7 < category then s.refuse p .badField [] else s.submit p (.borrowerAdd b category)
    | .standing | .outOfRange => s.refuse p .badField []

/-- A BORROWER_ADD frame. -/
def onBorrowerAdd (p : Port) (tag : Byte) (payload : List Byte) (s : State) : State :=
  s.receive p tag .borrowerAdd payload (ownBorrowerAdd p payload)

/-- BORROWER_ADD (R67). -/
def execBorrowerAdd (p : Port) (tag : Byte) (payload : List Byte) (s : State) : Outcome State Fault Refusal :=
  .next (onBorrowerAdd p tag payload s)

/-! ## ITEM_FLAG_SET -/

/-- The flag of ITEM_FLAG_SET: MISSING 0, NOT_LOANABLE 1 (R67's order; log 16). -/
def itemFlagOf : Nat → Option ItemFlag
  | 0 => some .missing
  | 1 => some .notLoanable
  | _ => none

/-- The action of ITEM_FLAG_SET: SET 0, CLEAR 1 (R83's order; log 16). -/
def itemActionOf : Nat → Option Bool
  | 0 => some true
  | 1 => some false
  | _ => none

/-- The acceptance of an ITEM_FLAG_SET: item 5 bytes, by number, flag 1 byte, action 1 byte (R67, R83). -/
def ownItemFlagSet (p : Port) (payload : List Byte) (s : State) : State :=
  match openOnly s.control.part with
  | some code => s.refuse p code []
  | none =>
    match refAt payload 0, itemFlagOf (at_ payload 5 1), itemActionOf (at_ payload 6 1) with
    | .given i, some flag, some set => s.submit p (.itemFlagSet i flag set)
    | _, _, _ => s.refuse p .badField []

/-- An ITEM_FLAG_SET frame. -/
def onItemFlagSet (p : Port) (tag : Byte) (payload : List Byte) (s : State) : State :=
  s.receive p tag .itemFlagSet payload (ownItemFlagSet p payload)

/-- ITEM_FLAG_SET (R67). -/
def execItemFlagSet (p : Port) (tag : Byte) (payload : List Byte) (s : State) : Outcome State Fault Refusal :=
  .next (onItemFlagSet p tag payload s)

/-! ## The queries -/

/-- A borrower restarts the idle timer of a port's desk, if the port has one (R20, R84). -/
def State.restartIdleAt (s : State) (p : Port) (borrower : Nat) : State :=
  match portDesk p with
  | some d => s.restartIdle d borrower
  | none => s

/-- The acceptance of a query on a borrower: "current" is refused from the Uplink port, which has no desk (R67). -/
def acceptQuery (op : Nat → EngineOp) (p : Port) (borrower : Ref) (s : State) : State :=
  if borrower = .outOfRange ∨ (p = .uplink ∧ borrower = .standing) then s.refuse p .badField []
  else s.withBorrower p (portDeskOr p) borrower fun b s1 => (s1.restartIdleAt p b).submit p (op b)

/-- A BORROWER_QUERY frame: borrower 5 bytes (R84). -/
def onBorrowerQuery (p : Port) (tag : Byte) (payload : List Byte) (s : State) : State :=
  s.receive p tag .borrowerQuery payload (acceptQuery EngineOp.borrowerQuery p (refAt payload 0))

/-- BORROWER_QUERY (R84). -/
def execBorrowerQuery (p : Port) (tag : Byte) (payload : List Byte) (s : State) : Outcome State Fault Refusal :=
  .next (onBorrowerQuery p tag payload s)

/-- A LOANS_LIST frame: borrower 5 bytes, start position 1 byte (R85). -/
def onLoansList (p : Port) (tag : Byte) (payload : List Byte) (s : State) : State :=
  s.receive p tag .loansList payload
    (acceptQuery (fun b => EngineOp.loansList b (at_ payload 5 1)) p (refAt payload 0))

/-- LOANS_LIST (R85). -/
def execLoansList (p : Port) (tag : Byte) (payload : List Byte) (s : State) : Outcome State Fault Refusal :=
  .next (onLoansList p tag payload s)

end Sys2Proof.Machine
end

