-- ==== Sys2Proof/Machine/Commits.lean ====
section
/-! DEFINITION. The commits and ends of the circulation operations: CHECKOUT_COMMIT (R72, R73), RETURN_COMMIT (R76, R79,
R80), RENEW_COMMIT (R78), FINE_PAY_COMMIT (R81), BORROWER_ADD_COMMIT (R82), ITEM_FLAG_SET_COMMIT (R83),
BORROWER_QUERY_END (R84) and LOANS_LIST_END (R85), with the entries of R86 and the slip actions of R87. A commit of an
operation that is not being served changes nothing (log 1). -/

namespace Sys2Proof.Machine

open Host

/-- The operation a port is being served, with the samples of its grant. -/
def State.served (s : State) : Option (Serving × Port × EngineOp) :=
  match s.engine.serving with
  | none => none
  | some v => (requesterPort v.who).bind fun p => (s.portOp p).map fun op => (v, p, op)

/-- The journal source of a port's desk (R86). -/
def portSource (p : Port) : EntrySource := deskSource (portDeskOr p)

/-! ## Counts -/

/-- A borrower's overdue_loans falls by one, where present and above 0 (R73, R76, R78). -/
def State.lowerOverdue (s : State) (b : Nat) : State :=
  match s.borrower? b with
  | some r => if 0 < r.overdueLoans then s.putBorrower { r with overdueLoans := r.overdueLoans - 1 } else s
  | none => s

/-- A borrower's loan_count falls by one, where present and above 0 (R73, R76). -/
def State.lowerLoans (s : State) (b : Nat) : State :=
  match s.borrower? b with
  | some r => if 0 < r.loanCount then s.putBorrower { r with loanCount := r.loanCount - 1 } else s
  | none => s

/-- A borrower's loan_count rises by one (R72). -/
def State.raiseLoans (s : State) (b : Nat) : State := s.modBorrower b fun r => { r with loanCount := r.loanCount + 1 }

/-- A loan taken back with its charge: the balance, the overdue count, the removal, the loan count (R73, R76). -/
def State.takeBack (s : State) (l : LoanRecord) (c : Charge) : State :=
  let s1 := s.chargeBorrower c
  let s2 := if l.countedOverdue then s1.lowerOverdue l.borrower else s1
  (s2.dropLoan l).lowerLoans l.borrower

/-! ## CHECKOUT_COMMIT -/

/-- The loan a CHECKOUT makes (R72 step 2). -/
def CheckoutPlan.loan (c : CheckoutPlan) (d : Desk) (day : Nat) : LoanRecord where
  item := c.item
  borrower := c.borrower
  itemClass := c.itemClass
  outDay := day
  dueDay := c.dueDay
  chargedThrough := c.dueDay
  fineAccrued := 0
  renewals := 0
  desk := d
  countedOverdue := false
  overridden := c.bypassed

/-- The exception entry after a CHECKOUT: the hold filled, MISSING cleared (R72 step 4). -/
def State.clearException (s : State) (c : CheckoutPlan) : State :=
  match s.exception? c.item with
  | none => s
  | some e =>
    if c.clearHold || c.clearMissing then
      s.putException
        { e with
          holdFor := if c.clearHold then none else e.holdFor
          missing := if c.clearMissing then false else e.missing }
    else s

/-- The old loan of an implicit return, with its charge, on the state at the commit (R73). -/
def State.implicitReturn (s : State) (v : Serving) (c : CheckoutPlan) : Option (LoanRecord × Charge) :=
  if c.isImplicit then (s.loan? c.item).map fun l => (l, s.charge v.policy v.day l) else none

/-- The RETURN entry flagged IMPLICIT (R86). -/
def implicitDraft (v : Serving) (src : EntrySource) (l : LoanRecord) (c : Charge) : EntryDraft :=
  { kind := .returned, day := v.day, time := v.time, source := src, borrower := some l.borrower, item := some l.item
    dueDay := some l.dueDay, amount := some c.addedBalance, flags := { isImplicit := true, saturated := c.saturated } }

/-- The CHECKOUT entry (R86). -/
def checkoutDraft (v : Serving) (src : EntrySource) (c : CheckoutPlan) : EntryDraft :=
  { kind := .checkout, day := v.day, time := v.time, source := src, borrower := some c.borrower, item := some c.item
    dueDay := some c.dueDay, flags := { override := c.bypassed, holdFilled := c.clearHold } }

/-- The table changes of a CHECKOUT commit, in R72's order. -/
def State.checkoutTables (s : State) (v : Serving) (d : Desk) (c : CheckoutPlan) : State :=
  let s1 := match s.implicitReturn v c with
    | some (l, charge) => s.takeBack l charge
    | none => s
  ((s1.addLoan (c.loan d v.day)).raiseLoans c.borrower).clearException c

/-- The entries of a CHECKOUT commit (R86). -/
def checkoutEntries (v : Serving) (src : EntrySource) (c : CheckoutPlan) (old : Option (LoanRecord × Charge)) :
    List EntryDraft :=
  (old.map fun x => implicitDraft v src x.1 x.2).toList ++ [checkoutDraft v src c]

/-- The commit of a CHECKOUT and its reply (R72, R73, R86, R87). -/
def commitCheckout (s : State) (v : Serving) (p : Port) (c : CheckoutPlan) : State :=
  let d := portDeskOr p
  let old := s.implicitReturn v c
  let line : SlipLine := { item := c.item, dueDay := c.dueDay, renewed := false }
  let s1 := (s.checkoutTables v d c).appendEntries (checkoutEntries v (portSource p) c old)
  let lost := s1.lineLoses d line c.borrower v.day v.time
  let s2 := s1.addLine d line c.borrower v.day v.time
  let s3 := match old with
    | some (l, _) => s2.restartIdle d l.borrower
    | none => s2
  (s3.restartIdle d c.borrower).reply p .ok { implicitReturn := old.isSome, slipLost := lost }
    ([.ident c.item, .ident c.borrower, .day c.dueDay, (s2.slipStatus d lost).field]
      ++ optField .ident (old.map (·.1.borrower)) ++ optField .money (old.map (·.2.addedBalance)))

/-- CHECKOUT_COMMIT (R72). -/
def onCheckoutCommit (s : State) : State :=
  match s.served with
  | some (v, p, .checkout _ _ _) =>
    match v.plan with
    | .checkout c => (commitCheckout s v p c).becomeFree
    | _ => s
  | _ => s

/-- CHECKOUT_COMMIT (R72). -/
def execCheckoutCommit (s : State) : Outcome State Fault Refusal := .next (onCheckoutCommit s)

/-! ## RETURN_COMMIT -/

/-- The hold borrower of an item's exception entry, if it has HOLD (R38, R79). -/
def State.holdOn (s : State) (item : Nat) : Option Nat := (s.exception? item).bind (·.holdFor)

/-- The ROUTE slip of a RETURN (R79, R105). -/
def routeSlip (v : Serving) (d : Desk) (item hold : Nat) : Slip :=
  { desk := d, day := v.day, time := v.time, body := .route item (hold % 10000) }

/-- The RETURN entry (R86). -/
def returnDraft (v : Serving) (src : EntrySource) (l : LoanRecord) (c : Charge) : EntryDraft :=
  { kind := .returned, day := v.day, time := v.time, source := src, borrower := some l.borrower, item := some l.item
    dueDay := some l.dueDay, amount := some c.addedBalance, flags := { saturated := c.saturated } }

/-- The UNMATCHED_RETURN entry (R80, R86). -/
def unmatchedDraft (v : Serving) (src : EntrySource) (item : Nat) : EntryDraft :=
  { kind := .unmatchedReturn, day := v.day, time := v.time, source := src, item := some item }

/-- The ROUTE slip of an item with HOLD offered to the returning desk's spool (R79). -/
def State.routeHold (s : State) (v : Serving) (d : Desk) (item : Nat) : State :=
  match s.holdOn item with
  | some h => s.offerSlip (routeSlip v d item h)
  | none => s

/-- The ROUTE slip was made and lost (R79, R87). -/
def State.routeLost (s : State) (d : Desk) (item : Nat) : Bool := (s.holdOn item).isSome && s.spoolFull d

/-- The reply flags of a RETURN (R76, R79, R87). -/
def State.routeFlags (s : State) (d : Desk) (item : Nat) : ReplyFlags :=
  { holdRoute := (s.holdOn item).isSome, slipLost := s.routeLost d item }

/-- The slip status of a RETURN: none where no ROUTE slip was made (R76, R80, R87). `s` is the state before the offer,
`s1` the state after. -/
def State.routeStatus (s s1 : State) (d : Desk) (item : Nat) : SlipStatus :=
  if (s.holdOn item).isSome then s1.slipStatus d (s.routeLost d item) else .none

/-- The commit of a RETURN whose item is on loan (R76). -/
def commitMatched (s : State) (v : Serving) (p : Port) (l : LoanRecord) : State :=
  let d := portDeskOr p
  let c := s.charge v.policy v.day l
  let s1 := (s.takeBack l c).appendEntries [returnDraft v (portSource p) l c]
  let s2 := s1.routeHold v d l.item
  (s2.restartIdle d l.borrower).reply p .ok (s1.routeFlags d l.item)
    [.ident l.item, .ident l.borrower, .day l.dueDay, .money c.addedBalance, .cents c.loan.fineAccrued,
     (s1.routeStatus s2 d l.item).field]

/-- The commit of a RETURN whose item is not on loan (R80). -/
def commitUnmatched (s : State) (v : Serving) (p : Port) (item : Nat) : State :=
  let d := portDeskOr p
  let s1 := s.appendEntries [unmatchedDraft v (portSource p) item]
  let s2 := s1.routeHold v d item
  s2.reply p .notOnLoan (s1.routeFlags d item) [.ident item, (s1.routeStatus s2 d item).field]

/-- The commit of a RETURN and its reply (R75, R76, R80). -/
def commitReturn (s : State) (v : Serving) (p : Port) (item : Nat) : State :=
  match s.loan? item with
  | some l => commitMatched s v p l
  | none => commitUnmatched s v p item

/-- RETURN_COMMIT (R76). -/
def onReturnCommit (s : State) : State :=
  match s.served with
  | some (v, p, .returnItem item) => (commitReturn s v p item).becomeFree
  | _ => s

/-- RETURN_COMMIT (R76). -/
def execReturnCommit (s : State) : Outcome State Fault Refusal := .next (onReturnCommit s)

/-! ## RENEW_COMMIT -/

/-- The loan after a renewal: the charge, the overdue mark cleared, the new due day, one renewal more (R78). -/
def renewedLoan (c : Charge) (newDue : Nat) : LoanRecord :=
  { c.loan with
    countedOverdue := false, dueDay := newDue, chargedThrough := newDue, renewals := c.loan.renewals + 1 }

/-- The RENEW entry (R86). -/
def renewDraft (v : Serving) (src : EntrySource) (r : RenewPlan) (c : Charge) : EntryDraft :=
  { kind := .renew, day := v.day, time := v.time, source := src, borrower := some r.borrower, item := some r.item
    dueDay := some r.newDue, amount := some c.addedBalance
    flags := { override := r.bypassed, saturated := c.saturated } }

/-- The table changes of a RENEW commit, in R78's order: the loan leaves its list and enters again at its new due
day. -/
def State.renewTables (s : State) (l : LoanRecord) (c : Charge) (newDue : Nat) : State :=
  let s1 := s.chargeBorrower c
  let s2 := if l.countedOverdue then s1.lowerOverdue l.borrower else s1
  ((s2.leaveLoanList l).putLoan (renewedLoan c newDue)).enterLoanList (renewedLoan c newDue)

/-- The commit of a RENEW and its reply (R78, R86, R87). -/
def commitRenew (s : State) (v : Serving) (p : Port) (r : RenewPlan) (l : LoanRecord) : State :=
  let d := portDeskOr p
  let c := s.charge v.policy v.day l
  let line : SlipLine := { item := r.item, dueDay := r.newDue, renewed := true }
  let s1 := (s.renewTables l c r.newDue).appendEntries [renewDraft v (portSource p) r c]
  let lost := s1.lineLoses d line r.borrower v.day v.time
  let s2 := s1.addLine d line r.borrower v.day v.time
  (s2.restartIdle d r.borrower).reply p .ok { slipLost := lost }
    [.ident r.item, .ident r.borrower, .day l.dueDay, .day r.newDue, .small (l.renewals + 1), .money c.addedBalance,
     (s2.slipStatus d lost).field]

/-- RENEW_COMMIT (R78). -/
def onRenewCommit (s : State) : State :=
  match s.served with
  | some (v, p, .renew _ item _) =>
    match v.plan, s.loan? item with
    | .renew r, some l => (commitRenew s v p r l).becomeFree
    | _, _ => s
  | _ => s

/-- RENEW_COMMIT (R78). -/
def execRenewCommit (s : State) : Outcome State Fault Refusal := .next (onRenewCommit s)

/-! ## FINE_PAY_COMMIT -/

/-- The PAYMENT entry (R86). -/
def paymentDraft (v : Serving) (src : EntrySource) (borrower applied : Nat) : EntryDraft :=
  { kind := .payment, day := v.day, time := v.time, source := src, borrower := some borrower, amount := some applied }

/-- The PAYMENT slip, for the Console spool (R81, R105). -/
def paymentSlip (v : Serving) (applied balance : Nat) : Slip :=
  { desk := .console, day := v.day, time := v.time, body := .payment applied balance }

/-- The commit of a FINE_PAY that applies an amount above 0 (R81). -/
def commitPayment (s : State) (v : Serving) (p : Port) (r : BorrowerRecord) (applied : Nat) : State :=
  let balance := r.fineBalance - applied
  let s1 := (s.putBorrower { r with fineBalance := balance }).appendEntries
    [paymentDraft v (portSource p) r.number applied]
  let lost := s1.spoolFull .console
  let s2 := s1.offerSlip (paymentSlip v applied balance)
  (s2.restartIdle (portDeskOr p) r.number).reply p .ok { slipLost := lost }
    [.money applied, .money balance, (s2.slipStatus .console lost).field]

/-- The commit of a FINE_PAY and its reply; with a balance of 0 it has no commit (R81). -/
def commitFinePay (s : State) (v : Serving) (p : Port) (r : BorrowerRecord) (amount : Nat) : State :=
  let applied := min amount r.fineBalance
  if applied = 0 then s.reply p .ok {} [.money 0, .money r.fineBalance, SlipStatus.none.field]
  else commitPayment s v p r applied

/-- FINE_PAY_COMMIT (R81). -/
def onFinePayCommit (s : State) : State :=
  match s.served with
  | some (v, p, .finePay borrower amount) =>
    match s.borrower? borrower with
    | some r => (commitFinePay s v p r amount).becomeFree
    | none => s
  | _ => s

/-- FINE_PAY_COMMIT (R81). -/
def execFinePayCommit (s : State) : Outcome State Fault Refusal := .next (onFinePayCommit s)

/-! ## BORROWER_ADD_COMMIT -/

/-- The expiry day of a provisional borrower (R82). -/
def provisionalExpiry (v : Serving) (category : Nat) : Nat :=
  min (v.day + (v.policy.categoryOf category).provisionalDays) lastDay

/-- The record BORROWER_ADD inserts (R82). -/
def provisionalRecord (v : Serving) (borrower category : Nat) : BorrowerRecord where
  number := borrower
  category := category
  expiryDay := provisionalExpiry v category
  fineBalance := 0
  loanCount := 0
  overdueLoans := 0
  serverBlock := 0
  origin := .provisional
  stale := false

/-- The BORROWER_ADDED entry (R86). -/
def addedDraft (v : Serving) (src : EntrySource) (borrower category : Nat) : EntryDraft :=
  { kind := .borrowerAdded, day := v.day, time := v.time, source := src, borrower := some borrower
    dueDay := some (provisionalExpiry v category), amount := some category }

/-- The commit of a BORROWER_ADD and its reply (R82). -/
def commitBorrowerAdd (s : State) (v : Serving) (p : Port) (borrower category : Nat) : State :=
  ((s.addBorrower (provisionalRecord v borrower category)).appendEntries
    [addedDraft v (portSource p) borrower category]).reply p .ok {}
    [.ident borrower, .day (provisionalExpiry v category)]

/-- BORROWER_ADD_COMMIT (R82). -/
def onBorrowerAddCommit (s : State) : State :=
  match s.served with
  | some (v, p, .borrowerAdd borrower category) => (commitBorrowerAdd s v p borrower category).becomeFree
  | _ => s

/-- BORROWER_ADD_COMMIT (R82). -/
def execBorrowerAddCommit (s : State) : Outcome State Fault Refusal := .next (onBorrowerAddCommit s)

/-! ## ITEM_FLAG_SET_COMMIT -/

/-- An exception entry with one flag alone (R83). -/
def flagAlone (item : Nat) (flag : ItemFlag) : ExceptionRecord :=
  ExceptionRecord.setFlag { item, holdFor := none, notLoanable := false, missing := false, classOverride := none }
    flag true

/-- The exception list after an ITEM_FLAG_SET, or none where it has no commit (R83). -/
def State.flagTables (s : State) (item : Nat) (flag : ItemFlag) (set : Bool) : Option State :=
  match s.exception? item with
  | none => if set then some (s.addException (flagAlone item flag)) else none
  | some e => if e.hasFlag flag = set then none else some (s.putException (e.setFlag flag set))

/-- The ITEM_FLAGGED entry (R86). -/
def flaggedDraft (v : Serving) (src : EntrySource) (item flags : Nat) : EntryDraft :=
  { kind := .itemFlagged, day := v.day, time := v.time, source := src, item := some item, amount := some flags }

/-- The commit of an ITEM_FLAG_SET, if it has one, and its reply with the item's flags after the request (R83). -/
def commitItemFlag (s : State) (v : Serving) (p : Port) (item : Nat) (flag : ItemFlag) (set : Bool) : State :=
  match s.flagTables item flag set with
  | none => s.reply p .ok {} [.small (s.itemFlags item)]
  | some s1 =>
    (s1.appendEntries [flaggedDraft v (portSource p) item (s1.itemFlags item)]).reply p .ok {}
      [.small (s1.itemFlags item)]

/-- ITEM_FLAG_SET_COMMIT (R83). -/
def onItemFlagSetCommit (s : State) : State :=
  match s.served with
  | some (v, p, .itemFlagSet item flag set) => (commitItemFlag s v p item flag set).becomeFree
  | _ => s

/-- ITEM_FLAG_SET_COMMIT (R83). -/
def execItemFlagSetCommit (s : State) : Outcome State Fault Refusal := .next (onItemFlagSetCommit s)

/-! ## BORROWER_QUERY_END -/

/-- The fields of a borrower record a BORROWER_QUERY gives, and what goes with them (R84). -/
def State.queryFields (s : State) (v : Serving) (r : BorrowerRecord) : List Field :=
  [.small r.category, .day r.expiryDay, .money r.fineBalance, .small r.loanCount, .small r.overdueLoans,
   .small r.serverBlock, .small r.origin.ctorIdx, .flag r.stale, .small (s.loanList r.number).length,
   .small (checkoutVerdict r (v.policy.categoryOf r.category) v.day false).code.number,
   .small s.borrowers.health.ctorIdx, .small s.loans.health.ctorIdx, .small s.policy.health.ctorIdx]

/-- The reply of a BORROWER_QUERY (R84). -/
def endBorrowerQuery (s : State) (v : Serving) (p : Port) (borrower : Nat) : State :=
  match s.borrower? borrower with
  | some r => s.reply p .ok {} (s.queryFields v r)
  | none => s.reply p .unknownBorrower {} [.small s.borrowers.health.ctorIdx]

/-- BORROWER_QUERY_END (R84). -/
def onBorrowerQueryEnd (s : State) : State :=
  match s.served with
  | some (v, p, .borrowerQuery borrower) => (endBorrowerQuery s v p borrower).becomeFree
  | _ => s

/-- BORROWER_QUERY_END (R84). -/
def execBorrowerQueryEnd (s : State) : Outcome State Fault Refusal := .next (onBorrowerQueryEnd s)

/-! ## LOANS_LIST_END -/

/-- The most loans one LOANS_LIST returns (R85). -/
def maxListed : Nat := 16

/-- What a LOANS_LIST gives of a loan (R85). -/
def LoanRecord.fields (l : LoanRecord) : List Field :=
  [.ident l.item, .small l.itemClass, .day l.outDay, .day l.dueDay, .day l.chargedThrough, .cents l.fineAccrued,
   .small l.renewals, .small l.desk.ctorIdx, .flag l.countedOverdue, .flag l.overridden]

/-- The loans a LOANS_LIST returns: up to 16 from the start position, in list order (R40, R85). -/
def State.listed (s : State) (borrower start : Nat) : List LoanRecord :=
  (((s.loanList borrower).drop start).take maxListed).filterMap s.loan?

/-- The reply of a LOANS_LIST (R85). -/
def endLoansList (s : State) (p : Port) (borrower start : Nat) : State :=
  s.reply p .ok {}
    ([.small (s.loanList borrower).length, .small start, .small s.loans.health.ctorIdx]
      ++ (s.listed borrower start).flatMap LoanRecord.fields)

/-- LOANS_LIST_END (R85). -/
def onLoansListEnd (s : State) : State :=
  match s.served with
  | some (_, p, .loansList borrower start) => (endLoansList s p borrower start).becomeFree
  | _ => s

/-- LOANS_LIST_END (R85). -/
def execLoansListEnd (s : State) : Outcome State Fault Refusal := .next (onLoansListEnd s)

end Sys2Proof.Machine
end

