-- ==== Sys2Proof/Machine/DeskRequests.lean ====
section
/-! DEFINITION. The requests a desk or a port carries out at acceptance: SCAN_TAKE (R26), SLIP_CUT (R108),
PRINTER_RESUME (R117), UNBIND (R22) and NOTICE_TAKE (R164). -/

namespace Sys2Proof.Machine

open Host

/-! ## SCAN_TAKE -/

/-- The own rule of SCAN_TAKE at a desk (R26). -/
def ownScanTake (p : Port) (s : State) : State :=
  let d := portDeskOr p
  match (s.desk d).ctx.queue with
  | r :: rest => (s.takeLabel d).reply p .ok {} [.raw r.bytes, .small rest.length]
  | [] =>
    let s1 := s.modCtx d fun x => { x with readEmpty := true }
    match (s.desk d).ctx.lastTaken with
    | some r => s1.reply p .ok { stale := true } [.raw r.bytes, .small 0]
    | none => s1.reply p .empty {} []

/-- A SCAN_TAKE frame. -/
def onScanTake (p : Port) (tag : Byte) (payload : List Byte) (s : State) : State :=
  s.receive p tag .scanTake payload (ownScanTake p)

/-- SCAN_TAKE (R26). -/
def execScanTake (p : Port) (tag : Byte) (payload : List Byte) (s : State) : Outcome State Fault Refusal :=
  .next (onScanTake p tag payload s)

/-! ## SLIP_CUT -/

/-- The reply flag SLIP_LOST of a cut (R22, R108). -/
def cutFlags (c : Option Bool) : ReplyFlags := { slipLost := c == some true }

/-- The own rule of SLIP_CUT (R108). -/
def ownSlipCut (p : Port) (s : State) : State :=
  let d := portDeskOr p
  let c := s.cutLoses d
  (s.cut d).reply p .ok (cutFlags c) [(cutStatus c).field]

/-- A SLIP_CUT frame. -/
def onSlipCut (p : Port) (tag : Byte) (payload : List Byte) (s : State) : State :=
  s.receive p tag .slipCut payload (ownSlipCut p)

/-- SLIP_CUT (R108). -/
def execSlipCut (p : Port) (tag : Byte) (payload : List Byte) (s : State) : Outcome State Fault Refusal :=
  .next (onSlipCut p tag payload s)

/-! ## PRINTER_RESUME -/

/-- A STALLED printer resumed, or NO_PAPER with paper-out asserted; any other state is left (R117). -/
def State.resumePrinter (s : State) (d : Desk) : State :=
  if (s.desk d).spooler.state = .stalled then
    if (s.desk d).lines.paperOut then s.enterNoPaper d else s.resumeHead d
  else s

/-- The printer state PRINTER_RESUME reports (R117; PRINTING: log 10). -/
def State.resumedState (s : State) (d : Desk) : PrinterState :=
  if (s.desk d).spooler.state = .stalled then
    if (s.desk d).lines.paperOut then .noPaper else headState (s.desk d).spooler.spool
  else (s.desk d).spooler.state

/-- The own rule of PRINTER_RESUME (R117). -/
def ownPrinterResume (p : Port) (s : State) : State :=
  let d := portDeskOr p
  (s.resumePrinter d).settle.reply p .ok {}
    [.small (s.resumedState d).ctorIdx, .small (s.desk d).spooler.spool.length]

/-- A PRINTER_RESUME frame. -/
def onPrinterResume (p : Port) (tag : Byte) (payload : List Byte) (s : State) : State :=
  s.receive p tag .printerResume payload (ownPrinterResume p)

/-- PRINTER_RESUME (R117). -/
def execPrinterResume (p : Port) (tag : Byte) (payload : List Byte) (s : State) : Outcome State Fault Refusal :=
  .next (onPrinterResume p tag payload s)

/-! ## UNBIND -/

/-- The own rule of UNBIND (R22). -/
def ownUnbind (p : Port) (s : State) : State :=
  let d := portDeskOr p
  let c := s.cutLoses d
  (s.unbindOrCut d .request).reply p .ok (cutFlags c) (optField .ident (s.current d) ++ [(cutStatus c).field])

/-- An UNBIND frame. -/
def onUnbind (p : Port) (tag : Byte) (payload : List Byte) (s : State) : State :=
  s.receive p tag .unbind payload (ownUnbind p)

/-- UNBIND (R22). -/
def execUnbind (p : Port) (tag : Byte) (payload : List Byte) (s : State) : Outcome State Fault Refusal :=
  .next (onUnbind p tag payload s)

/-! ## NOTICE_TAKE -/

/-- The kind and the arguments of a notice, in the order of R165 (kinds numbered in its order; widths: log 14). -/
def Notice.fields : Notice → List Field
  | .scanReady kind number => [.small 0, .small kind.ctorIdx, .ident number]
  | .borrowerBound borrower time => [.small 1, .ident borrower, .time time]
  | .borrowerUnbound borrower cause => [.small 2, .ident borrower, .small cause.ctorIdx]
  | .slipLost cause n kind borrower =>
    [.small 3, .small cause.ctorIdx, .small n] ++ optField (fun k => .small k) (kind.map (·.ctorIdx))
      ++ optField .ident borrower
  | .printerState st depth => [.small 4, .small st.ctorIdx, .small depth]
  | .journalLevel level occupancy => [.small 5, .small level.ctorIdx, .count occupancy]
  | .sweepDone day => [.small 6, .day day]
  | .batteryLow => [.small 7]
  | .uploadDone last occupancy => [.small 8, .seq last, .count occupancy]
  | .tableFault table cause slot => [.small 9, .small table.ctorIdx, .small cause.ctorIdx] ++ optField .count slot
  | .partState st => [.small 10, .small st.ctorIdx]
  | .dayRolled today => [.small 11, .day today]

/-- The own rule of NOTICE_TAKE (R164). -/
def ownNoticeTake (p : Port) (s : State) : State :=
  match (s.port p).notices with
  | [] => s.reply p .empty {} []
  | n :: rest => (s.modPort p fun q => { q with notices := rest }).reply p .ok {} (n.fields ++ [.small rest.length])

/-- A NOTICE_TAKE frame. -/
def onNoticeTake (p : Port) (tag : Byte) (payload : List Byte) (s : State) : State :=
  s.receive p tag .noticeTake payload (ownNoticeTake p)

/-- NOTICE_TAKE (R164). -/
def execNoticeTake (p : Port) (tag : Byte) (payload : List Byte) (s : State) : Outcome State Fault Refusal :=
  .next (onNoticeTake p tag payload s)

end Sys2Proof.Machine
end

