-- ==== Sys2Proof/Machine/Downloads.lean ====
section
/-! DEFINITION. The acceptance of the download requests (R133, R140 to R142, R144): BORROWER_LOAD, ITEM_FLAGS_LOAD,
MARK_ALL, PURGE_MARKED, TABLE_CLEAR, TABLE_REBUILD, LOAN_LOAD and POLICY_LOAD. -/

namespace Sys2Proof.Machine

open Host

/-- A load's record count out of its range (R133). -/
def countOutside (most : Nat) (payload : List Byte) : Bool := at_ payload 0 1 == 0 || most < at_ payload 0 1

/-! ## BORROWER_LOAD -/

/-- The acceptance of a BORROWER_LOAD: 1 to 32 records (R133). -/
def ownBorrowerLoad (p : Port) (payload : List Byte) (s : State) : State :=
  if countOutside 32 payload then s.refuse p .badField []
  else s.submit p (.borrowerLoad (loadRecords 24 borrowerLoadRecord payload) [])

/-- A BORROWER_LOAD frame. -/
def onBorrowerLoad (p : Port) (tag : Byte) (payload : List Byte) (s : State) : State :=
  s.receive p tag .borrowerLoad payload (ownBorrowerLoad p payload)

/-- BORROWER_LOAD (R133). -/
def execBorrowerLoad (p : Port) (tag : Byte) (payload : List Byte) (s : State) : Outcome State Fault Refusal :=
  .next (onBorrowerLoad p tag payload s)

/-! ## ITEM_FLAGS_LOAD -/

/-- The acceptance of an ITEM_FLAGS_LOAD: 1 to 32 records (R133). -/
def ownItemFlagsLoad (p : Port) (payload : List Byte) (s : State) : State :=
  if countOutside 32 payload then s.refuse p .badField []
  else s.submit p (.itemFlagsLoad (loadRecords 13 itemLoadRecord payload) [])

/-- An ITEM_FLAGS_LOAD frame. -/
def onItemFlagsLoad (p : Port) (tag : Byte) (payload : List Byte) (s : State) : State :=
  s.receive p tag .itemFlagsLoad payload (ownItemFlagsLoad p payload)

/-- ITEM_FLAGS_LOAD (R133). -/
def execItemFlagsLoad (p : Port) (tag : Byte) (payload : List Byte) (s : State) : Outcome State Fault Refusal :=
  .next (onItemFlagsLoad p tag payload s)

/-! ## LOAN_LOAD -/

/-- The acceptance of a NIGHT-only download (R133). -/
def acceptNight (op : EngineOp) (p : Port) (s : State) : State :=
  match nightOnly s.control.part with
  | some code => s.refuse p code []
  | none => s.submit p op

/-- The acceptance of a LOAN_LOAD: NIGHT, then 1 to 24 records (R133). -/
def ownLoanLoad (p : Port) (payload : List Byte) (s : State) : State :=
  match nightOnly s.control.part with
  | some code => s.refuse p code []
  | none =>
    if countOutside 24 payload then s.refuse p .badField []
    else s.submit p (.loanLoad (loadRecords 28 loanLoadRecord payload) [])

/-- A LOAN_LOAD frame. -/
def onLoanLoad (p : Port) (tag : Byte) (payload : List Byte) (s : State) : State :=
  s.receive p tag .loanLoad payload (ownLoanLoad p payload)

/-- LOAN_LOAD (R133). -/
def execLoanLoad (p : Port) (tag : Byte) (payload : List Byte) (s : State) : Outcome State Fault Refusal :=
  .next (onLoanLoad p tag payload s)

/-! ## MARK_ALL and PURGE_MARKED -/

/-- A MARK_ALL frame. -/
def onMarkAll (p : Port) (tag : Byte) (payload : List Byte) (s : State) : State :=
  s.receive p tag .markAll payload (acceptNight (.markAll 0 0) p)

/-- MARK_ALL (R133). -/
def execMarkAll (p : Port) (tag : Byte) (payload : List Byte) (s : State) : Outcome State Fault Refusal :=
  .next (onMarkAll p tag payload s)

/-- A PURGE_MARKED frame. -/
def onPurgeMarked (p : Port) (tag : Byte) (payload : List Byte) (s : State) : State :=
  s.receive p tag .purgeMarked payload (acceptNight (.purgeMarked 0 0 0) p)

/-- PURGE_MARKED (R133). -/
def execPurgeMarked (p : Port) (tag : Byte) (payload : List Byte) (s : State) : Outcome State Fault Refusal :=
  .next (onPurgeMarked p tag payload s)

/-! ## TABLE_CLEAR and TABLE_REBUILD -/

/-- The table a selector names: BORROWERS 0, LOANS 1, ITEMS 2, POLICY 3 (R46's order; log 16). -/
def tableOf : Nat → Option TableId
  | 0 => some .borrowers
  | 1 => some .loans
  | 2 => some .items
  | 3 => some .policy
  | _ => none

/-- The operation of a TABLE_CLEAR: it takes LOANS and ITEMS (R140, R141). -/
def clearOp : Option TableId → Option EngineOp
  | some .loans => some (.clearLoans 1 0 0 0)
  | some .items => some (.clearItems 0 0)
  | some .borrowers | some .policy | none => none

/-- The operation of a TABLE_REBUILD: it takes BORROWERS (R142). -/
def rebuildOp : Option TableId → Option EngineOp
  | some .borrowers => some (.rebuildBorrowers 1 0 0 0 0)
  | some .loans | some .items | some .policy | none => none

/-- The acceptance of a clear or a rebuild: NIGHT, then a table the request takes (R133). -/
def acceptTable (op : Option EngineOp) (p : Port) (s : State) : State :=
  match nightOnly s.control.part with
  | some code => s.refuse p code []
  | none =>
    match op with
    | none => s.refuse p .badField []
    | some op => s.submit p op

/-- A TABLE_CLEAR frame: the table, 1 byte. -/
def onTableClear (p : Port) (tag : Byte) (payload : List Byte) (s : State) : State :=
  s.receive p tag .tableClear payload (acceptTable (clearOp (tableOf (at_ payload 0 1))) p)

/-- TABLE_CLEAR (R133). -/
def execTableClear (p : Port) (tag : Byte) (payload : List Byte) (s : State) : Outcome State Fault Refusal :=
  .next (onTableClear p tag payload s)

/-- A TABLE_REBUILD frame: the table, 1 byte. -/
def onTableRebuild (p : Port) (tag : Byte) (payload : List Byte) (s : State) : State :=
  s.receive p tag .tableRebuild payload (acceptTable (rebuildOp (tableOf (at_ payload 0 1))) p)

/-- TABLE_REBUILD (R133). -/
def execTableRebuild (p : Port) (tag : Byte) (payload : List Byte) (s : State) : Outcome State Fault Refusal :=
  .next (onTableRebuild p tag payload s)

/-! ## POLICY_LOAD -/

/-- The sections the Console port may load (R144, R162). -/
def consoleSection : PolicySection → Bool
  | .deskTerms | .calendar => true
  | .matrix | .classTerms | .categoryTerms | .classRanges => false

/-- The acceptance of a POLICY_LOAD: the section, the Console's permission, the values R144 refuses. -/
def ownPolicyLoad (p : Port) (payload : List Byte) (s : State) : State :=
  match sectionOf (at_ payload 0 1) with
  | none => s.refuse p .badField []
  | some k =>
    if p = .console ∧ consoleSection k = false then s.refuse p .notPermitted []
    else match readSection k (payload.drop 1) with
      | none => s.refuse p .badField []
      | some contents => s.submit p (.policyLoad contents)

/-- A POLICY_LOAD frame. -/
def onPolicyLoad (p : Port) (tag : Byte) (payload : List Byte) (s : State) : State :=
  s.receive p tag .policyLoad payload (ownPolicyLoad p payload)

/-- POLICY_LOAD (R144). -/
def execPolicyLoad (p : Port) (tag : Byte) (payload : List Byte) (s : State) : Outcome State Fault Refusal :=
  .next (onPolicyLoad p tag payload s)

end Sys2Proof.Machine
end

