-- ==== Sys2Proof/Machine/Hours.lean ====
section
/-! DEFINITION. The clock and the desk hours: DATE_SET (R53 to R56), ROLLOVER (R51), OPENING_EVENT and CLOSING_EVENT
(R56, R149), DRAIN_TIMER_EXPIRY (R118), and DESK_OPEN, DESK_CLOSE, NIGHT_ENTER and NIGHT_LEAVE (R147). -/

namespace Sys2Proof.Machine

open Host

/-! ## Events at the clock -/

/-- The opening and closing events of a time of day just reached (R56): placed while the date is set; the controller
gives them no effect in STARTING and RETAINING (log 22). -/
def State.hourEvents (s : State) : State :=
  if s.clock.dateUnset then s
  else
    let t := s.policy.data.desks
    let now := s.clock.time
    let s1 := if now = t.opening then s.openingEvent else s
    if now = t.closing then s1.closingEvent else s1

/-- The last second of a day. -/
def lastSecond : Nat := 86399

/-- Today and the time of day taken; the fraction of a second begins afresh (R50). -/
def State.takeDate (s : State) (day time : Nat) : State :=
  { s with clock := { s.clock with today := day, time := time, dateUnset := false, fraction := 0 } }

/-- The time of day becomes 0 at a rollover (R51). -/
def State.wrapTime (s : State) : State := { s with clock := { s.clock with time := 0, fraction := 0 } }

/-- The clock at a rollover with the date set, today below 65,535 (R51). -/
def State.nextDay (s : State) : State :=
  { s with clock := { s.clock with today := s.clock.today + 1, time := 0, fraction := 0 } }

/-- What a day change does after the clock has taken it: the marks (R54), DAY_ROLLED, and the pass that may begin
(R98). -/
def State.dayChanged (s : State) : State := (s.markSweep.notifyAll (.dayRolled s.clock.today)).beginPassIfDue

/-- A rollover (R51): the time of day would pass 86,399. -/
def onRollover (s : State) : State :=
  if s.clock.time ≠ lastSecond then s
  else if s.clock.dateUnset then s.wrapTime
  else if lastDay ≤ s.clock.today then s.wrapTime.hourEvents
  else if s.control.part.running then s.nextDay.dayChanged.hourEvents.reevaluate
  else s.nextDay

/-- ROLLOVER (R51). -/
def execRollover (s : State) : Outcome State Fault Refusal := .next (onRollover s)

/-- The time of day reaches the opening time (R56, R149). -/
def onOpeningEvent (s : State) : State :=
  if !s.clock.dateUnset && s.clock.time == s.policy.data.desks.opening then s.openingEvent else s

/-- OPENING_EVENT (R149). -/
def execOpeningEvent (s : State) : Outcome State Fault Refusal := .next (onOpeningEvent s)

/-- The time of day reaches the closing time (R56, R149). -/
def onClosingEvent (s : State) : State :=
  if !s.clock.dateUnset && s.clock.time == s.policy.data.desks.closing then s.closingEvent else s

/-- CLOSING_EVENT (R149). -/
def execClosingEvent (s : State) : Outcome State Fault Refusal := .next (onClosingEvent s)

/-- The drain timer expires (R118): the drain ends if it has not ended, and the passage is looked at (R150). -/
def onDrainTimerExpiry (s : State) : State :=
  if s.control.drainTimer.isSome then
    let s1 := s.modControl fun c => { c with drainTimer := none }
    (if s.control.part = .closing ∧ s.control.drainEnded = false then s1.endDrain else s1).passage
  else s

/-- DRAIN_TIMER_EXPIRY (R118). -/
def execDrainTimerExpiry (s : State) : Outcome State Fault Refusal := .next (onDrainTimerExpiry s)

/-! ## DATE_SET -/

/-- The latest day a DATE_SET may name (R53). -/
def State.dateLimit (s : State) : Nat := min (s.clock.today + 400) lastDay

/-- The refusal of a DATE_SET by the table of R53. -/
def State.dateRefusal (s : State) (day : Nat) : Option ReplyCode :=
  if s.clock.dateUnset then none
  else if day < s.clock.today then some .dateBackward
  else if s.dateLimit < day then some .dateRange
  else none

/-- A DATE_SET that changes today or ends the date-unset condition (R53, R54). -/
def State.changesDay (s : State) (day : Nat) : Bool := s.clock.dateUnset || s.clock.today != day

/-- The effect of a DATE_SET answered OK: the clock; the sweep marks and DAY_ROLLED where the day changes; the entry
offered; the pass that may begin; the event of an opening or closing time reached; the re-evaluation (R53, R54, R56). -/
def State.setDate (s : State) (day time : Nat) : State :=
  let s1 := s.takeDate day time
  let s2 := if s.changesDay day then s1.markSweep.notifyAll (.dayRolled day) else s1
  ((s2.offerDateEntry { day, time }).beginPassIfDue).hourEvents.reevaluate

/-- The own rule of DATE_SET (R53): day 2 bytes, time 4 bytes. -/
def ownDateSet (p : Port) (payload : List Byte) (s : State) : State :=
  let day := at_ payload 0 2
  let time := at_ payload 2 4
  if lastSecond < time then s.refuse p .badField []
  else match s.dateRefusal day with
    | some code => s.refuse p code []
    | none =>
      (s.setDate day time).reply p .ok {} [.day day, .time time]

/-- A DATE_SET frame. -/
def onDateSet (p : Port) (tag : Byte) (payload : List Byte) (s : State) : State :=
  s.receive p tag .dateSet payload (ownDateSet p payload)

/-- DATE_SET (R53). -/
def execDateSet (p : Port) (tag : Byte) (payload : List Byte) (s : State) : Outcome State Fault Refusal :=
  .next (onDateSet p tag payload s)

/-! ## Opening and closing on request -/

/-- The reply of R147: OK, with the part state after the request. -/
def State.replyPart (s : State) (p : Port) : State := s.reply p .ok {} [.small s.control.part.ctorIdx]

/-- A request that opens the desk: OPEN from NIGHT, refused in CLOSING (R147). -/
def State.openOnRequest (s : State) (p : Port) : State :=
  match s.control.part with
  | .night => s.enterOpen.replyPart p
  | .closing => s.refuse p .deskClosing []
  | .open | .starting | .retaining => s.replyPart p

/-- A request that begins CLOSING from OPEN (R147). -/
def State.closeOnRequest (s : State) (p : Port) : State :=
  match s.control.part with
  | .open => s.enterClosing.replyPart p
  | .closing | .night | .starting | .retaining => s.replyPart p

/-- A DESK_OPEN frame. -/
def onDeskOpen (p : Port) (tag : Byte) (payload : List Byte) (s : State) : State :=
  s.receive p tag .deskOpen payload (State.openOnRequest · p)

/-- DESK_OPEN (R147). -/
def execDeskOpen (p : Port) (tag : Byte) (payload : List Byte) (s : State) : Outcome State Fault Refusal :=
  .next (onDeskOpen p tag payload s)

/-- A DESK_CLOSE frame. -/
def onDeskClose (p : Port) (tag : Byte) (payload : List Byte) (s : State) : State :=
  s.receive p tag .deskClose payload (State.closeOnRequest · p)

/-- DESK_CLOSE (R147). -/
def execDeskClose (p : Port) (tag : Byte) (payload : List Byte) (s : State) : Outcome State Fault Refusal :=
  .next (onDeskClose p tag payload s)

/-- A NIGHT_ENTER frame. -/
def onNightEnter (p : Port) (tag : Byte) (payload : List Byte) (s : State) : State :=
  s.receive p tag .nightEnter payload (State.closeOnRequest · p)

/-- NIGHT_ENTER (R147). -/
def execNightEnter (p : Port) (tag : Byte) (payload : List Byte) (s : State) : Outcome State Fault Refusal :=
  .next (onNightEnter p tag payload s)

/-- A NIGHT_LEAVE frame. -/
def onNightLeave (p : Port) (tag : Byte) (payload : List Byte) (s : State) : State :=
  s.receive p tag .nightLeave payload (State.openOnRequest · p)

/-- NIGHT_LEAVE (R147). -/
def execNightLeave (p : Port) (tag : Byte) (payload : List Byte) (s : State) : Outcome State Fault Refusal :=
  .next (onNightLeave p tag payload s)

end Sys2Proof.Machine
end

