-- ==== Sys2Proof/Machine/JournalRequests.lean ====
section
/-! DEFINITION. The journal requests (R126 to R130): JOURNAL_ARM, JOURNAL_FETCH, JOURNAL_RELEASE and JOURNAL_REWIND, and
the delivery of an entry (R128). -/

namespace Sys2Proof.Machine

open Host

/-- Change the journal. -/
def State.modJournal (s : State) (f : Journal → Journal) : State := { s with journal := f s.journal }

/-- What every reply to a journal request carries (R126). -/
def Journal.fields (j : Journal) : List Field :=
  [.seq j.head, .seq j.cursor, .seq j.tail, .count j.occupancy, .small (levelOf j.occupancy).ctorIdx, .count j.window,
   .flag (j.window != 0)]

/-- The delivered copy of a held entry at a position (R128): the fields, the journal's own numbering, DAMAGED where the
recomputed check disagrees, and the stored check. -/
def JournalEntry.delivered (e : JournalEntry) (position : Seq) : List Byte :=
  e.fields.layout position (entryCheck e.fields e.sequence != e.check) ++ bytesOf 2 e.check.toNat

/-- The next `n` entries to be delivered, each with its position (R127, R128). -/
def Journal.take (j : Journal) (n : Nat) : List (List Byte) :=
  (((j.entries.drop j.delivered).take n).zipIdx j.delivered).map fun x =>
    x.1.delivered (j.head + BitVec.ofNat 32 x.2)

/-! ## JOURNAL_ARM -/

/-- The window armed for `n` entries, and the read cursor at the head (R127). -/
def Journal.arm (j : Journal) (n : Nat) : Journal := { j with window := n, cursor := j.head }

/-- The own rule of JOURNAL_ARM: the count is 4 bytes, 1 to 3,072 (R126, R127). -/
def ownJournalArm (p : Port) (payload : List Byte) (s : State) : State :=
  let n := at_ payload 0 4
  if n = 0 ∨ journalCapacity < n then s.refuse p .badField s.journal.fields
  else (s.modJournal (·.arm n)).reply p .ok {} (s.journal.arm n).fields

/-- A JOURNAL_ARM frame. -/
def onJournalArm (p : Port) (tag : Byte) (payload : List Byte) (s : State) : State :=
  s.receive p tag .journalArm payload (ownJournalArm p payload)

/-- JOURNAL_ARM (R127). -/
def execJournalArm (p : Port) (tag : Byte) (payload : List Byte) (s : State) : Outcome State Fault Refusal :=
  .next (onJournalArm p tag payload s)

/-! ## JOURNAL_FETCH -/

/-- The number of entries a fetch of `k` delivers (R127). -/
def Journal.fetchCount (j : Journal) (k : Nat) : Nat := min (min k j.window) j.undelivered

/-- The journal after `n` entries are delivered (R127). -/
def Journal.deliver (j : Journal) (n : Nat) : Journal :=
  { j with cursor := j.cursor + BitVec.ofNat 32 n, window := j.window - n }

/-- UPLOAD_DONE where a fetch has taken an armed window to 0 (R127). -/
def State.uploadDone (s : State) : State :=
  if s.journal.window = 0 then s.notify .uplink (.uploadDone (s.journal.cursor - 1) s.journal.occupancy) else s

/-- The own rule of JOURNAL_FETCH: the count is 1 byte, 1 to 24 (R126, R127). -/
def ownJournalFetch (p : Port) (payload : List Byte) (s : State) : State :=
  let k := at_ payload 0 1
  if k = 0 ∨ 24 < k then s.refuse p .badField s.journal.fields
  else if s.journal.window = 0 then s.refuse p .notArmed s.journal.fields
  else
    let n := s.journal.fetchCount k
    let s1 := s.modJournal (·.deliver n)
    (s1.reply p .ok {} (s1.journal.fields ++ (s.journal.take n).map Field.raw)).uploadDone

/-- A JOURNAL_FETCH frame. -/
def onJournalFetch (p : Port) (tag : Byte) (payload : List Byte) (s : State) : State :=
  s.receive p tag .journalFetch payload (ownJournalFetch p payload)

/-- JOURNAL_FETCH (R127). -/
def execJournalFetch (p : Port) (tag : Byte) (payload : List Byte) (s : State) : Outcome State Fault Refusal :=
  .next (onJournalFetch p tag payload s)

/-! ## JOURNAL_RELEASE -/

/-- The sequence lies behind the head, at a backward distance of 1 to 2^31 (R129). -/
def Journal.behind (j : Journal) (q : Seq) : Bool := 1 ≤ (j.head - q).toNat && (j.head - q).toNat ≤ 2147483648

/-- The number of entries a release removes, or none where it is refused (R129). -/
def Journal.releaseCount (j : Journal) (q : Seq) : Option Nat :=
  let d := (q - j.head).toNat
  if d < j.delivered then some (d + 1) else if j.behind q then some 0 else none

/-- The journal with `n` entries removed at its head (R129). -/
def Journal.release (j : Journal) (n : Nat) : Journal :=
  { j with entries := j.entries.drop n, head := j.head + BitVec.ofNat 32 n }

/-- A release that removes entries, with what it hands on: the level, then the sweep (R129). -/
def State.releaseEntries (s : State) (n : Nat) : State :=
  ((s.modJournal (·.release n)).evaluateLevel s.journal.occupancy).resumeSweep

/-- The own rule of JOURNAL_RELEASE (R129). The reply carries R126's values, then the number removed. -/
def ownJournalRelease (p : Port) (payload : List Byte) (s : State) : State :=
  match s.journal.releaseCount (BitVec.ofNat 32 (at_ payload 0 4)) with
  | none => s.refuse p .badField (s.journal.fields ++ [.count 0])
  | some n =>
    (if n = 0 then s else s.releaseEntries n).reply p .ok {} ((s.journal.release n).fields ++ [.count n])

/-- A JOURNAL_RELEASE frame. -/
def onJournalRelease (p : Port) (tag : Byte) (payload : List Byte) (s : State) : State :=
  s.receive p tag .journalRelease payload (ownJournalRelease p payload)

/-- JOURNAL_RELEASE (R129). -/
def execJournalRelease (p : Port) (tag : Byte) (payload : List Byte) (s : State) : Outcome State Fault Refusal :=
  .next (onJournalRelease p tag payload s)

/-! ## JOURNAL_REWIND -/

/-- The read cursor at the head (R130). -/
def Journal.rewind (j : Journal) : Journal := { j with cursor := j.head }

/-- The own rule of JOURNAL_REWIND (R130). -/
def ownJournalRewind (p : Port) (s : State) : State :=
  (s.modJournal Journal.rewind).reply p .ok {} s.journal.rewind.fields

/-- A JOURNAL_REWIND frame. -/
def onJournalRewind (p : Port) (tag : Byte) (payload : List Byte) (s : State) : State :=
  s.receive p tag .journalRewind payload (ownJournalRewind p)

/-- JOURNAL_REWIND (R130). -/
def execJournalRewind (p : Port) (tag : Byte) (payload : List Byte) (s : State) : Outcome State Fault Refusal :=
  .next (onJournalRewind p tag payload s)

end Sys2Proof.Machine
end

