-- ==== Sys2Proof/Machine/Steps.lean ====
section
/-! DEFINITION. POLICY_LOAD_COMMIT (R144, R48, R27, R13) and the steps of the gateway's bursts: BORROWER_LOAD_STEP (R135,
R136), ITEM_FLAGS_LOAD_STEP (R137), MARK_ALL_STEP (R138), PURGE_MARKED_STEP (R139), TABLE_CLEAR_STEP (R140, R141),
TABLE_REBUILD_STEP (R142) and LOAN_LOAD_STEP (R143). A step that is not being served changes nothing (log 1). -/

namespace Sys2Proof.Machine

open Host

/-! ## POLICY_LOAD_COMMIT -/

/-- The section whose contents these are. -/
def SectionContents.name : SectionContents → PolicySection
  | .matrix _ => .matrix
  | .classTerms _ => .classTerms
  | .categoryTerms _ => .categoryTerms
  | .deskTerms _ => .deskTerms
  | .calendar _ => .calendar
  | .classRanges _ => .classRanges

/-- The policy with one section replaced whole (R144). -/
def PolicyData.replace (p : PolicyData) : SectionContents → PolicyData
  | .matrix c => { p with matrix := c }
  | .classTerms c => { p with classTerms := c }
  | .categoryTerms c => { p with categoryTerms := c }
  | .deskTerms c => { p with desks := c }
  | .calendar c => { p with calendar := c }
  | .classRanges c => { p with ranges := c }

/-- The value for a section. -/
def BySection.get {α : Type} (m : BySection α) : PolicySection → α
  | .matrix => m.matrix
  | .classTerms => m.classTerms
  | .categoryTerms => m.categoryTerms
  | .deskTerms => m.deskTerms
  | .calendar => m.calendar
  | .classRanges => m.classRanges

/-- Set the value for a section. -/
def BySection.set {α : Type} (m : BySection α) (k : PolicySection) (a : α) : BySection α :=
  match k with
  | .matrix => { m with matrix := a }
  | .classTerms => { m with classTerms := a }
  | .categoryTerms => { m with categoryTerms := a }
  | .deskTerms => { m with deskTerms := a }
  | .calendar => { m with calendar := a }
  | .classRanges => { m with classRanges := a }

/-- Every section, in R48's order. -/
def allSections : List PolicySection := [.matrix, .classTerms, .categoryTerms, .deskTerms, .calendar, .classRanges]

/-- The number of reloaded marks still clear (R144). -/
def marksClear (m : BySection Bool) : Nat := (allSections.filter fun k => !m.get k).length

/-- The Policy Store after a section is replaced: contents, section check, sum, reloaded mark, and SOUND at the sixth
mark (R44, R48, R144). -/
def PolicyStore.load (p : PolicyStore) (c : SectionContents) : PolicyStore :=
  let check := crc16 c.bytes
  let marks := p.reloaded.set c.name true
  { data := p.data.replace c
    checks := p.checks.set c.name check
    sum := p.sum - (p.checks.get c.name).setWidth 32 + check.setWidth 32
    health := if marksClear marks = 0 then .sound else p.health
    reloaded := marks }

/-- Auto-bind turned ON removes the BORROWER entries of the scan queue (R27). -/
def State.autoBindOn (s : State) (d : Desk) : State :=
  s.modCtx d fun x => { x with queue := x.queue.filter fun r => r.kind == .item }

/-- What a desk does at a DESK_TERMS commit, its old terms given (R12, R13, R27). -/
def State.deskTermsChanged (s : State) (d : Desk) (old : DeskTerms) : State :=
  let s1 := if old.wandMode ≠ (s.terms d).wandMode then s.wandModeChanged d else s
  if !old.autoBind && (s.terms d).autoBind then s1.autoBindOn d else s1

/-- What the desks do at the commit of a section (R144). -/
def State.sectionReaches (s : State) (k : PolicySection) (old : PolicyData) : State :=
  match k with
  | .deskTerms => (s.deskTermsChanged .console old.desks.console).deskTermsChanged .kiosk old.desks.kiosk
  | .matrix | .classTerms | .categoryTerms | .calendar | .classRanges => s

/-- The commit of a POLICY_LOAD and its reply (R144). -/
def commitPolicy (s : State) (p : Port) (contents : SectionContents) : State :=
  let c := clampContents contents
  let s1 := ({ s with policy := s.policy.load c }.touch .policy).sectionReaches c.name s.policy.data
  s1.reply p .ok { clamped := c != contents }
    [.small c.name.ctorIdx, .small s1.policy.health.ctorIdx, .small (marksClear s1.policy.reloaded)]

/-- POLICY_LOAD_COMMIT (R144). -/
def onPolicyLoadCommit (s : State) : State :=
  match s.served with
  | some (_, p, .policyLoad contents) => (commitPolicy s p contents).becomeFree
  | _ => s

/-- POLICY_LOAD_COMMIT (R144). -/
def execPolicyLoadCommit (s : State) : Outcome State Fault Refusal := .next (onPolicyLoadCommit s)

/-! ## Load bursts -/

/-- What one record of a load comes to: the state, the outcome and the CLAMPED mark (R134). -/
structure Applied where
  state : State
  outcome : RecordOutcome
  clamped : Bool

/-- A record that changes nothing (R134). -/
def State.keep (s : State) (o : RecordOutcome) : Applied := { state := s, outcome := o, clamped := false }

/-- The outcome list of a load's reply (R134, R167). -/
def reportFields (rs : List RecordReport) : List Field :=
  rs.flatMap fun r => [.small r.outcome.ctorIdx, .flag r.clamped, .raw r.reference]

/-- A load step's end: the reply after the last record, else the progress kept (R134). -/
def State.loadProgress (s : State) (p : Port) (last : Bool) (op : EngineOp) (done : List RecordReport) : State :=
  if last then s.reply p .ok { clamped := done.any (·.clamped) } (reportFields done) else s.setOp p op

/-! ## BORROWER_LOAD_STEP -/

/-- A balance moved by a delta and clamped to 0 to 999,999, and whether the clamp acts (R135). -/
def movedBalance (balance : Nat) (delta : Int) : Nat := (max 0 (min ((balance : Int) + delta) maxBalance)).toNat
def balanceClamps (balance : Nat) (delta : Int) : Bool := (movedBalance balance delta : Int) != (balance : Int) + delta

/-- The checks both forms of a BORROWER_LOAD record make (R135, R136). -/
def BorrowerLoadRecord.namesInRange (r : BorrowerLoadRecord) : Bool :=
  r.borrower ≤ maxIdent && -(maxBalance : Int) ≤ r.delta && r.delta ≤ maxBalance

/-- A record without the remove flag (R135). -/
def State.loadBorrower (s : State) (r : BorrowerLoadRecord) : Applied :=
  if !r.namesInRange || 7 < r.category || lastDay < r.expiryDay || 15 < r.serverBlock then s.keep .badField
  else match s.borrower? r.borrower with
    | some b =>
      { state := s.putBorrower
          { b with
            category := r.category, expiryDay := r.expiryDay, serverBlock := r.serverBlock
            fineBalance := movedBalance b.fineBalance r.delta, origin := .downloaded, stale := false }
        outcome := .updated
        clamped := balanceClamps b.fineBalance r.delta }
    | none =>
      if s.borrowerSlotFree then
        { state := s.addBorrower
            { number := r.borrower, category := r.category, expiryDay := r.expiryDay
              fineBalance := movedBalance 0 r.delta, loanCount := 0, overdueLoans := 0
              serverBlock := r.serverBlock, origin := .downloaded, stale := false }
          outcome := .inserted
          clamped := balanceClamps 0 r.delta }
      else s.keep .tableFull

/-- A record with the remove flag (R136). -/
def State.unloadBorrower (s : State) (r : BorrowerLoadRecord) : Applied :=
  if !r.namesInRange then s.keep .badField
  else match s.borrower? r.borrower with
    | none => s.keep .absent
    | some b =>
      let balance := movedBalance b.fineBalance r.delta
      if b.loanCount = 0 ∧ balance = 0 then
        { state := s.dropBorrower b.number, outcome := .removed, clamped := balanceClamps b.fineBalance r.delta }
      else
        { state := s.putBorrower
            { b with fineBalance := balance, serverBlock := 15, origin := .downloaded, stale := false }
          outcome := .keptWithdrawn
          clamped := balanceClamps b.fineBalance r.delta }

/-- One BORROWER_LOAD record (R135, R136): the remove flag is 0 or 1. -/
def State.applyBorrowerLoad (s : State) (r : BorrowerLoadRecord) : Applied :=
  match r.remove with
  | 0 => s.loadBorrower r
  | 1 => s.unloadBorrower r
  | _ => s.keep .badField

/-- The commit of a BORROWER_LOAD step (R92, R134). -/
def stepBorrowerLoad (s : State) (p : Port) (r : BorrowerLoadRecord) (rest : List BorrowerLoadRecord)
    (done : List RecordReport) : State :=
  let a := (s.touch .borrowers).applyBorrowerLoad r
  let done1 := done ++ [{ outcome := a.outcome, clamped := a.clamped, reference := r.reference }]
  a.state.loadProgress p rest.isEmpty (.borrowerLoad rest done1) done1

/-- BORROWER_LOAD_STEP (R135). -/
def onBorrowerLoadStep (s : State) : State :=
  match s.served with
  | some (v, p, .borrowerLoad (r :: rest) done) => (stepBorrowerLoad s p r rest done).conclude v.who !rest.isEmpty
  | _ => s

/-- BORROWER_LOAD_STEP (R135). -/
def execBorrowerLoadStep (s : State) : Outcome State Fault Refusal := .next (onBorrowerLoadStep s)

/-! ## ITEM_FLAGS_LOAD_STEP -/

/-- The flags byte of an ITEM_FLAGS_LOAD record (R167). -/
def ItemLoadRecord.hasHold (r : ItemLoadRecord) : Bool := r.flags.getLsbD 0
def ItemLoadRecord.hasNotLoanable (r : ItemLoadRecord) : Bool := r.flags.getLsbD 1
def ItemLoadRecord.hasMissing (r : ItemLoadRecord) : Bool := r.flags.getLsbD 2
def ItemLoadRecord.hasHoldBorrower (r : ItemLoadRecord) : Bool := r.flags.getLsbD 7

/-- The class override of a record: 0xFF means absent (R167). -/
def ItemLoadRecord.override? (r : ItemLoadRecord) : Option Nat :=
  if r.classOverride = 0xFF then none else some r.classOverride

/-- The checks of an ITEM_FLAGS_LOAD record (R137). -/
def ItemLoadRecord.valid (r : ItemLoadRecord) : Bool :=
  r.item ≤ maxIdent && (!r.hasHoldBorrower || r.holdBorrower ≤ maxIdent) && r.action ≤ 1
    && (r.flags &&& 0x78#8) == 0 && (r.override?.getD 0) ≤ 15 && r.hasHold == r.hasHoldBorrower

/-- The exception entry a record gives (R137). -/
def ItemLoadRecord.entry (r : ItemLoadRecord) : ExceptionRecord where
  item := r.item
  holdFor := if r.hasHold then some r.holdBorrower else none
  notLoanable := r.hasNotLoanable
  missing := r.hasMissing
  classOverride := r.override?

/-- The removal that a REMOVE, or an UPSERT of neither flags nor an override, makes (R137). -/
def State.removeException (s : State) (item : Nat) : Applied :=
  if (s.exception? item).isSome then { state := s.dropException item, outcome := .removed, clamped := false }
  else s.keep .absent

/-- The insertion or replacement of an UPSERT (R137). -/
def State.upsertException (s : State) (e : ExceptionRecord) : Applied :=
  if (s.exception? e.item).isSome then { state := s.putException e, outcome := .updated, clamped := false }
  else if s.exceptionSlotFree then { state := s.addException e, outcome := .inserted, clamped := false }
  else s.keep .tableFull

/-- One ITEM_FLAGS_LOAD record (R137): UPSERT 0, REMOVE 1. -/
def State.applyItemLoad (s : State) (r : ItemLoadRecord) : Applied :=
  if !r.valid then s.keep .badField
  else if r.action = 1 || r.entry.isEmpty then s.removeException r.item
  else s.upsertException r.entry

/-- The commit of an ITEM_FLAGS_LOAD step; the item number stands in the reference's place (R92, R134, R167). -/
def stepItemLoad (s : State) (p : Port) (r : ItemLoadRecord) (rest : List ItemLoadRecord)
    (done : List RecordReport) : State :=
  let a := (s.touch .items).applyItemLoad r
  let done1 := done ++ [{ outcome := a.outcome, clamped := a.clamped, reference := bytesOf 5 r.item }]
  a.state.loadProgress p rest.isEmpty (.itemFlagsLoad rest done1) done1

/-- ITEM_FLAGS_LOAD_STEP (R137). -/
def onItemFlagsLoadStep (s : State) : State :=
  match s.served with
  | some (v, p, .itemFlagsLoad (r :: rest) done) => (stepItemLoad s p r rest done).conclude v.who !rest.isEmpty
  | _ => s

/-- ITEM_FLAGS_LOAD_STEP (R137). -/
def execItemFlagsLoadStep (s : State) : Outcome State Fault Refusal := .next (onItemFlagsLoadStep s)

/-! ## LOAN_LOAD_STEP -/

/-- The desk of a LOAN_LOAD record: CONSOLE 0, KIOSK 1 (R167). -/
def deskOf : Nat → Option Desk
  | 0 => some .console
  | 1 => some .kiosk
  | _ => none

/-- The range checks of a LOAN_LOAD record but for its desk (R143). -/
def LoanLoadRecord.inRange (r : LoanLoadRecord) : Bool :=
  r.item ≤ maxIdent && r.borrower ≤ maxIdent && r.itemClass ≤ 15 && r.renewals ≤ 15 && r.outDay ≤ lastDay
    && r.dueDay ≤ lastDay && r.chargedThrough ≤ lastDay && r.outDay ≤ r.dueDay

/-- charged_through clamped into the interval from the due day to the greater of the due day and T (R143 step 1). -/
def LoanLoadRecord.charged (r : LoanLoadRecord) (t : Nat) : Nat :=
  clampTo r.dueDay (max r.dueDay t) r.chargedThrough

/-- The loan a LOAN_LOAD record makes (R143 steps 2 and 3). -/
def LoanLoadRecord.loan (r : LoanLoadRecord) (d : Desk) (t : Nat) : LoanRecord where
  item := r.item
  borrower := r.borrower
  itemClass := r.itemClass
  outDay := r.outDay
  dueDay := r.dueDay
  chargedThrough := r.charged t
  fineAccrued := r.fineAccrued
  renewals := r.renewals
  desk := d
  countedOverdue := r.dueDay < t
  overridden := false

/-- The borrower's counts after a loaded loan (R143 step 4). -/
def countLoaded (overdue : Bool) (b : BorrowerRecord) : BorrowerRecord :=
  { b with loanCount := b.loanCount + 1, overdueLoans := b.overdueLoans + overdue.toNat }

/-- The most loans of one borrower number (R39). -/
def maxLoansOfOne : Nat := 255

/-- One LOAN_LOAD record, the checks in R143's order. -/
def State.applyLoanLoad (s : State) (t : Nat) (r : LoanLoadRecord) : Applied :=
  match deskOf r.desk with
  | none => s.keep .badField
  | some d =>
    if !r.inRange then s.keep .badField
    else if (s.borrower? r.borrower).isNone then s.keep .unknownBorrower
    else if (s.loan? r.item).isSome then s.keep .duplicate
    else if maxLoansOfOne ≤ (s.loanList r.borrower).length then s.keep .limitReached
    else if !s.loanSlotFree then s.keep .tableFull
    else
      { state := (s.addLoan (r.loan d t)).modBorrower r.borrower (countLoaded (r.dueDay < t))
        outcome := .inserted
        clamped := r.charged t != r.chargedThrough }

/-- The commit of a LOAN_LOAD step (R92, R134). -/
def stepLoanLoad (s : State) (v : Serving) (p : Port) (r : LoanLoadRecord) (rest : List LoanLoadRecord)
    (done : List RecordReport) : State :=
  let a := (s.touch .loans).applyLoanLoad v.day r
  let done1 := done ++ [{ outcome := a.outcome, clamped := a.clamped, reference := r.reference }]
  a.state.loadProgress p rest.isEmpty (.loanLoad rest done1) done1

/-- LOAN_LOAD_STEP (R143). -/
def onLoanLoadStep (s : State) : State :=
  match s.served with
  | some (v, p, .loanLoad (r :: rest) done) => (stepLoanLoad s v p r rest done).conclude v.who !rest.isEmpty
  | _ => s

/-- LOAN_LOAD_STEP (R143). -/
def execLoanLoadStep (s : State) : Outcome State Fault Refusal := .next (onLoanLoadStep s)

/-! ## MARK_ALL_STEP -/

/-- The slots a walking step covers (R92). -/
def stepSlots : Nat := 64

/-- A walk of `n` slots that starts a step at the cursor ends with that step (R92). -/
def walkEnds (n cursor step : Nat) : Bool := n ≤ cursor + step

/-- A step's end of a walk: the reply with its tallies, or the progress kept (R134). -/
def State.walkProgress (s : State) (p : Port) (last : Bool) (op : EngineOp) (tallies : List Field) : State :=
  if last then s.reply p .ok {} tallies else s.setOp p op

/-- A record MARK_ALL marks (R138). -/
def BorrowerRecord.markable (r : BorrowerRecord) : Bool := r.origin == .downloaded && !r.stale

/-- The commit of a MARK_ALL step (R138). -/
def stepMarkAll (s : State) (p : Port) (cursor marked : Nat) : State :=
  let es := (s.borrowers.slots cursor stepSlots).filter fun e => e.rcd.markable
  let s1 := es.foldl (fun s e => s.putBorrower { e.rcd with stale := true }) (s.touch .borrowers)
  s1.walkProgress p (walkEnds borrowerCapacity cursor stepSlots) (.markAll (cursor + stepSlots) (marked + es.length))
    [.count (marked + es.length)]

/-- MARK_ALL_STEP (R138). -/
def onMarkAllStep (s : State) : State :=
  match s.served with
  | some (v, p, .markAll cursor marked) =>
    (stepMarkAll s p cursor marked).conclude v.who !(walkEnds borrowerCapacity cursor stepSlots)
  | _ => s

/-- MARK_ALL_STEP (R138). -/
def execMarkAllStep (s : State) : Outcome State Fault Refusal := .next (onMarkAllStep s)

/-! ## PURGE_MARKED_STEP -/

/-- A stale record without loans or balance, which a purge removes (R139). -/
def BorrowerRecord.removable (r : BorrowerRecord) : Bool := r.loanCount == 0 && r.fineBalance == 0

/-- The stale record in a slot, if there is one (R139). -/
def State.staleAt (s : State) (cursor : Nat) : Option BorrowerRecord :=
  ((s.borrowers.entries.find? fun e => e.slot == cursor && e.rcd.stale)).map (·.rcd)

/-- What a purge does to a stale record (R139). -/
def State.purge (s : State) (r : BorrowerRecord) : State :=
  if r.removable then s.dropBorrower r.number else s.putBorrower { r with serverBlock := 15, stale := false }

/-- The commit of a PURGE_MARKED step (R139). -/
def stepPurge (s : State) (p : Port) (cursor removed withdrawn : Nat) : State :=
  let found := s.staleAt cursor
  let s1 := match found with
    | some r => (s.touch .borrowers).purge r
    | none => s.touch .borrowers
  let removed1 := removed + (found.any (·.removable)).toNat
  let withdrawn1 := withdrawn + (found.any fun r => !r.removable).toNat
  s1.walkProgress p (walkEnds borrowerCapacity cursor 1) (.purgeMarked (cursor + 1) removed1 withdrawn1)
    [.count removed1, .count withdrawn1]

/-- PURGE_MARKED_STEP (R139). -/
def onPurgeMarkedStep (s : State) : State :=
  match s.served with
  | some (v, p, .purgeMarked cursor removed withdrawn) =>
    (stepPurge s p cursor removed withdrawn).conclude v.who !(walkEnds borrowerCapacity cursor 1)
  | _ => s

/-- PURGE_MARKED_STEP (R139). -/
def execPurgeMarkedStep (s : State) : Outcome State Fault Refusal := .next (onPurgeMarkedStep s)

/-! ## TABLE_CLEAR_STEP -/

/-- A loan removed by TABLE_CLEAR LOANS, with its borrower's counts (R140). -/
def State.clearLoan (s : State) (l : LoanRecord) : State :=
  let s1 := (s.dropLoan l).lowerLoans l.borrower
  if l.countedOverdue then s1.lowerOverdue l.borrower else s1

/-- The loan map empty, with no lists and its sum 0 (R140). -/
def State.emptyLoans (s : State) : State :=
  { s with loans := { s.loans with entries := [], sum := 0 }, loanLists := [] }

/-- A step of phase 1 of TABLE_CLEAR LOANS (R140). -/
def stepClearLoans (s : State) (p : Port) (cursor removed : Nat) : State :=
  let es := s.loans.slots cursor stepSlots
  let s1 := es.foldl (fun s e => s.clearLoan e.rcd) (s.touch .loans)
  let removed1 := removed + es.length
  if walkEnds loanCapacity cursor stepSlots then s1.emptyLoans.setOp p (.clearLoans 2 0 removed1 0)
  else s1.setOp p (.clearLoans 1 (cursor + stepSlots) removed1 0)

/-- A borrower whose counts phase 2 of TABLE_CLEAR LOANS corrects (R140). -/
def BorrowerRecord.counted (r : BorrowerRecord) : Bool := r.loanCount != 0 || r.overdueLoans != 0

/-- A step of phase 2 of TABLE_CLEAR LOANS; the last step makes the loan map SOUND (R140). -/
def stepClearCounts (s : State) (p : Port) (cursor removed corrected : Nat) : State :=
  let es := (s.borrowers.slots cursor stepSlots).filter fun e => e.rcd.counted
  let s1 := es.foldl (fun s e => s.putBorrower { e.rcd with loanCount := 0, overdueLoans := 0 }) (s.touch .loans)
  let corrected1 := corrected + es.length
  let last := walkEnds borrowerCapacity cursor stepSlots
  (if last then s1.setHealth .loans .sound else s1).walkProgress p last
    (.clearLoans 2 (cursor + stepSlots) removed corrected1) [.count removed, .count corrected1]

/-- A step of TABLE_CLEAR ITEMS; the last step sets the sum to 0 and makes the list SOUND (R141). -/
def stepClearItems (s : State) (p : Port) (cursor removed : Nat) : State :=
  let es := s.items.slots cursor stepSlots
  let s1 := es.foldl (fun s e => s.dropException e.rcd.item) (s.touch .items)
  let removed1 := removed + es.length
  let last := walkEnds itemCapacity cursor stepSlots
  (if last then { s1 with items := { entries := [], sum := 0, health := .sound } } else s1).walkProgress p last
    (.clearItems (cursor + stepSlots) removed1) [.count removed1]

/-- TABLE_CLEAR_STEP (R140, R141). -/
def onTableClearStep (s : State) : State :=
  match s.served with
  | some (v, p, .clearLoans phase cursor removed corrected) =>
    if phase = 1 then (stepClearLoans s p cursor removed).conclude v.who true
    else
      (stepClearCounts s p cursor removed corrected).conclude v.who !(walkEnds borrowerCapacity cursor stepSlots)
  | some (v, p, .clearItems cursor removed) =>
    (stepClearItems s p cursor removed).conclude v.who !(walkEnds itemCapacity cursor stepSlots)
  | _ => s

/-- TABLE_CLEAR_STEP (R140). -/
def execTableClearStep (s : State) : Outcome State Fault Refusal := .next (onTableClearStep s)

/-! ## TABLE_REBUILD_STEP -/

/-- A step of phase 1 of TABLE_REBUILD: every record removed; at its last step the map is empty with sum 0 (R142). -/
def stepRebuildEmpty (s : State) (p : Port) (cursor removed : Nat) : State :=
  let es := s.borrowers.slots cursor stepSlots
  let s1 := es.foldl (fun s e => s.dropBorrower e.rcd.number) (s.touch .borrowers)
  let removed1 := removed + es.length
  if walkEnds borrowerCapacity cursor stepSlots then
    { s1 with borrowers := { s1.borrowers with entries := [], sum := 0 } }.setOp p (.rebuildBorrowers 2 0 removed1 0 0)
  else s1.setOp p (.rebuildBorrowers 1 (cursor + stepSlots) removed1 0 0)

/-- The placeholder for a loan's absent borrower (R142). -/
def placeholder (borrower day : Nat) : BorrowerRecord where
  number := borrower
  category := 0
  expiryDay := day
  fineBalance := 0
  loanCount := 0
  overdueLoans := 0
  serverBlock := 14
  origin := .rebuilt
  stale := false

/-- The progress of phase 2: the state and its two tallies. -/
structure Placing where
  state : State
  inserted : Nat
  unplaced : Nat

/-- One loan of phase 2 (R142). -/
def Placing.place (x : Placing) (day : Nat) (l : LoanRecord) : Placing :=
  if (x.state.borrower? l.borrower).isSome then x
  else if x.state.borrowerSlotFree then
    { x with state := x.state.addBorrower (placeholder l.borrower day), inserted := x.inserted + 1 }
  else { x with unplaced := x.unplaced + 1 }

/-- A step of phase 2 of TABLE_REBUILD (R142). -/
def stepRebuildPlace (s : State) (v : Serving) (p : Port) (cursor removed inserted unplaced : Nat) : State :=
  let x := (s.loans.slots cursor stepSlots).foldl (fun x e => x.place v.day e.rcd)
    { state := s.touch .borrowers, inserted, unplaced : Placing }
  if walkEnds loanCapacity cursor stepSlots then
    x.state.setOp p (.rebuildBorrowers 3 0 removed x.inserted x.unplaced)
  else x.state.setOp p (.rebuildBorrowers 2 (cursor + stepSlots) removed x.inserted x.unplaced)

/-- The number of loans in a borrower's list with counted_overdue set (R142). -/
def State.overdueInList (s : State) (borrower : Nat) : Nat :=
  (((s.loanList borrower).filterMap s.loan?).filter (·.countedOverdue)).length

/-- A borrower recounted from its loan list (R142 phase 3). -/
def State.recount (s : State) (r : BorrowerRecord) : State :=
  s.putBorrower { r with loanCount := (s.loanList r.number).length, overdueLoans := s.overdueInList r.number }

/-- A step of phase 3 of TABLE_REBUILD; the last makes the map SOUND if no loan was unplaced (R142). -/
def stepRebuildCount (s : State) (p : Port) (cursor removed inserted unplaced : Nat) : State :=
  let s1 := (s.borrowers.slots cursor stepSlots).foldl (fun s e => s.recount e.rcd) (s.touch .borrowers)
  let last := walkEnds borrowerCapacity cursor stepSlots
  (if last && unplaced == 0 then s1.setHealth .borrowers .sound else s1).walkProgress p last
    (.rebuildBorrowers 3 (cursor + stepSlots) removed inserted unplaced)
    [.count removed, .count inserted, .count unplaced]

/-- TABLE_REBUILD_STEP (R142). -/
def onTableRebuildStep (s : State) : State :=
  match s.served with
  | some (v, p, .rebuildBorrowers phase cursor removed inserted unplaced) =>
    if phase = 1 then (stepRebuildEmpty s p cursor removed).conclude v.who true
    else if phase = 2 then (stepRebuildPlace s v p cursor removed inserted unplaced).conclude v.who true
    else
      (stepRebuildCount s p cursor removed inserted unplaced).conclude v.who
        !(walkEnds borrowerCapacity cursor stepSlots)
  | _ => s

/-- TABLE_REBUILD_STEP (R142). -/
def execTableRebuildStep (s : State) : Outcome State Fault Refusal := .next (onTableRebuildStep s)

end Sys2Proof.Machine
end

