-- ==== Sys2Proof/Machine/SweepScrub.lean ====
section
/-! DEFINITION. SWEEP_BATCH (R62, R99 to R101) and SCRUB_STEP (R156, R157). A batch or step that is not being served
changes nothing (log 1). -/

namespace Sys2Proof.Machine

open Host

/-! ## SWEEP_BATCH -/

/-- The slots of a batch (R99). -/
def batchSlots : Nat := 32

/-- A batch's commit in progress: the state, the entries to append, and the slot where R100 stopped it. -/
structure Batch where
  state : State
  drafts : List EntryDraft
  stopped : Option Nat

/-- The FINE entry of a charged slot (R61, R99). -/
def fineDraft (v : Serving) (l : LoanRecord) (c : Charge) : EntryDraft :=
  { kind := .fine, day := v.day, time := v.time, source := .sweep, borrower := some l.borrower, item := some l.item
    dueDay := some l.dueDay, amount := some c.addedBalance, flags := { saturated := c.saturated } }

/-- The loan is to be marked overdue (R62). -/
def LoanRecord.marks (l : LoanRecord) (t : Nat) : Bool := l.dueDay < t && !l.countedOverdue

/-- A borrower's overdue_loans rises by one, saturating at 255, where the borrower is present (R62). -/
def State.raiseOverdue (s : State) (b : Nat) : State :=
  s.modBorrower b fun r => { r with overdueLoans := min (r.overdueLoans + 1) 255 }

/-- The loan after its marking and its charge (R60, R62). -/
def sweptLoan (l : LoanRecord) (c : Charge) (t : Nat) : LoanRecord :=
  { c.loan with countedOverdue := l.countedOverdue || l.dueDay < t }

/-- An occupied slot applied: marking, then the charge, with its changes to the loan and its borrower (R60, R62, R99). A
loan that nothing changes is not updated. -/
def State.sweepLoan (s : State) (l : LoanRecord) (c : Charge) (t : Nat) : State :=
  let s1 := if l.marks t then s.raiseOverdue l.borrower else s
  let s2 := s1.chargeBorrower c
  if sweptLoan l c t = l then s2 else s2.putLoan (sweptLoan l c t)

/-- One occupied slot of a batch's commit; the occupancy counts the entries the commit has appended (R100). -/
def Batch.slot (x : Batch) (v : Serving) (e : Entry LoanRecord) : Batch :=
  if x.stopped.isSome then x
  else
    let c := x.state.charge v.policy v.day e.rcd
    if 0 < c.addedLoan ∧ pressedMark ≤ x.state.journal.occupancy + x.drafts.length then
      { x with stopped := some e.slot }
    else
      { x with
        state := x.state.sweepLoan e.rcd c v.day
        drafts := if 0 < c.addedLoan then x.drafts ++ [fineDraft v e.rcd c] else x.drafts }

/-- The DAY_MARK entry (R99). -/
def dayMarkDraft (v : Serving) : EntryDraft := { kind := .dayMark, day := v.day, time := v.time, source := .sweep }

/-- The start of a batch's commit: on the first batch of a pass the DAY_MARK, or its loss at a full journal (R99). -/
def State.startBatch (s : State) (v : Serving) : Batch :=
  let s1 := s.touch .loans
  if s.sweep.firstBatch then
    if s.journal.occupancy < journalCapacity then { state := s1, drafts := [dayMarkDraft v], stopped := none }
    else { state := s1.addDayMarkLost, drafts := [], stopped := none }
  else { state := s1, drafts := [], stopped := none }

/-- The slots of a batch applied in ascending order (R99). -/
def State.runBatch (s : State) (v : Serving) : Batch :=
  (s.loans.slots s.sweep.cursor batchSlots).foldl (fun x e => x.slot v e) (s.startBatch v)

/-- The cursor a batch leaves (R99, R100). -/
def Batch.cursor (x : Batch) (start : Nat) : Nat := x.stopped.getD (min (start + batchSlots) loanCapacity)

/-- A batch's table changes and entries, with the cursor moved (R99). -/
def State.commitBatch (s : State) (v : Serving) : State :=
  let x := s.runBatch v
  let s1 := x.state.appendEntries x.drafts
  { s1 with sweep := { s1.sweep with cursor := x.cursor s.sweep.cursor, firstBatch := false } }

/-- The end of a pass (R101). -/
def State.endPass (s : State) (day : Nat) : State :=
  if s.clock.sweepRepeat then
    { s with
      clock := { s.clock with sweepRepeat := false }
      sweep := { state := .requesting, cursor := 0, firstBatch := true }
      engine := { s.engine with waiting := { s.engine.waiting with sweep := true } } }
  else
    (({ s with sweep := { s.sweep with state := .idle } }).notifyConsoleUplink (.sweepDone day)).beginPassIfDue

/-- The sweep between batches: the batch was not the pass's last step, so that its yield set is recorded (R93); then
REQUESTING, or STALLED at an occupancy of 2,304 (R100). A STALLED sweep keeps the set until it waits again (log 35). -/
def State.nextBatch (s : State) : State :=
  { s with
    sweep := { s.sweep with state := if s.journal.occupancy < pressedMark then .requesting else .stalled }
  }.recordYield .sweep

/-- The commit of a sweep batch, and whether the pass goes on to request its next batch (R99 to R101). Where the last
batch both changes the journal level and ends the pass, JOURNAL_LEVEL is placed before SWEEP_DONE (log 20). -/
def commitSweep (s : State) (v : Serving) : State × Bool :=
  let s1 := s.commitBatch v
  if loanCapacity ≤ s1.sweep.cursor then (s1.endPass v.day, false)
  else
    let s2 := s1.nextBatch
    (s2, s2.sweep.state == .requesting)

/-- The sweep batch being served, if one is. -/
def State.servedSweep (s : State) : Option Serving :=
  s.engine.serving.filter fun v => v.who == .sweep

/-- SWEEP_BATCH (R99). A sweep that ends STALLED has recorded its yield set but does not join the waiting set (R93, R100;
log 35). -/
def onSweepBatch (s : State) : State :=
  match s.servedSweep with
  | some v => (commitSweep s v).1.conclude .sweep (commitSweep s v).2
  | none => s

/-- SWEEP_BATCH (R99). -/
def execSweepBatch (s : State) : Outcome State Fault Refusal := .next (onSweepBatch s)

/-! ## SCRUB_STEP -/

/-- The occupied slots of a scrub step (R156). -/
def scrubSlots : Nat := 16

/-- A slot as a scrub step sees it: its number, its stored check and its recomputed check. -/
structure Checked where
  slot : Nat
  stored : Check
  computed : Check

/-- The policy as a table of six slots (R156). -/
def PolicyStore.checked (p : PolicyStore) : List Checked :=
  allSections.map fun k => { slot := k.ctorIdx, stored := p.checks.get k, computed := sectionCheck p.data k }

/-- The occupied slots of a checked table, ascending (R156). -/
def State.checkedSlots (s : State) : TableId → List Checked
  | .borrowers => s.borrowers.entries.map fun e => { slot := e.slot, stored := e.check, computed := borrowerCheck e.rcd }
  | .loans => s.loans.entries.map fun e => { slot := e.slot, stored := e.check, computed := loanCheck e.rcd }
  | .items => s.items.entries.map fun e => { slot := e.slot, stored := e.check, computed := exceptionCheck e.rcd }
  | .policy => s.policy.checked

/-- The number of slots of a checked table (R30, R156). -/
def tableCapacity : TableId → Nat
  | .borrowers => borrowerCapacity
  | .loans => loanCapacity
  | .items => itemCapacity
  | .policy => 6

/-- The slots a step examines: up to 16 from the cursor (R156). -/
def State.scrubbed (s : State) : List Checked :=
  ((s.checkedSlots s.scrub.table).filter fun x => s.scrub.cursor ≤ x.slot).take scrubSlots

/-- One slot examined: its recomputed check added to the pass sum, and compared with the stored check (R156). -/
def State.examine (s : State) (x : Checked) : State :=
  let s1 := { s with scrub := { s.scrub with passSum := s.scrub.passSum + x.computed.setWidth 32 } }
  if x.computed = x.stored then s1 else s1.tableFault s.scrub.table .recordCheck (some x.slot)

/-- Where the cursor goes: past the 16th slot examined, or nowhere, the step having reached the last slot (R156). -/
def scrubNext (t : TableId) (xs : List Checked) : Option Nat :=
  if xs.length < scrubSlots then none
  else match xs.getLast? with
    | some x => if x.slot + 1 < tableCapacity t then some (x.slot + 1) else none
    | none => none

/-- The next table in the cycle (R157). -/
def TableId.next : TableId → TableId
  | .borrowers => .loans
  | .loans => .items
  | .items => .policy
  | .policy => .borrowers

/-- The maintained sum of a table (R44). -/
def State.tableSum (s : State) : TableId → CheckSum
  | .borrowers => s.borrowers.sum
  | .loans => s.loans.sum
  | .items => s.items.sum
  | .policy => s.policy.sum

/-- The pass-disturbed mark of a table (R157). -/
def Scrub.isDisturbed (x : Scrub) : TableId → Bool
  | .borrowers => x.disturbed.borrowers
  | .loans => x.disturbed.loans
  | .items => x.disturbed.items
  | .policy => x.disturbed.policy

/-- The end of a pass: the comparison unless disturbed, the counter, the next table (R157). -/
def State.endScrubPass (s : State) : State :=
  let t := s.scrub.table
  let s1 := if s.scrub.isDisturbed t || s.scrub.passSum == s.tableSum t then s else s.tableFault t .passSum none
  { s1 with scrub := { s1.scrub with table := t.next, cursor := 0, passes := (s.scrub.passes + 1) % 65536 } }

/-- The work of a scrub step (R156, R157). -/
def commitScrub (s : State) : State :=
  let xs := s.scrubbed
  let s1 := xs.foldl State.examine s
  match scrubNext s.scrub.table xs with
  | some c => { s1 with scrub := { s1.scrub with cursor := c } }
  | none => s1.endScrubPass

/-- A scrub step is being served. -/
def State.servedScrub (s : State) : Bool :=
  match s.engine.serving with
  | some v => v.who == .scrubber
  | none => false

/-- SCRUB_STEP (R156): its step is never the last, for scrub passes never end (R90). -/
def onScrubStep (s : State) : State := if s.servedScrub then (commitScrub s).boundary .scrubber else s

/-- SCRUB_STEP (R156). -/
def execScrubStep (s : State) : Outcome State Fault Refusal := .next (onScrubStep s)

end Sys2Proof.Machine
end

