-- ==== Sys2Proof/Machine/Status.lean ====
section
/-! DEFINITION. STATUS (R166, with R14, R28, R104, R120, R132, R155, R158): the groups each port sees, in the order of
R166, and the clear-on-read counters and sticky flags its report clears. Widths that R167 leaves open: log 14. -/

namespace Sys2Proof.Machine

open Host

/-- Group 1: the part. The revision letter is B. -/
def State.groupPart (s : State) : List Field :=
  [.raw [0x42#8], .small s.control.part.ctorIdx, .small s.control.startKind.ctorIdx, .flag s.control.batteryLow]
    ++ optField .small s.control.drainTimer ++ [.flag s.clock.dateUnset, .day s.clock.today, .time s.clock.time]

/-- Group 2: the tables. -/
def State.groupTables (s : State) : List Field :=
  [.small s.borrowers.health.ctorIdx, .small s.loans.health.ctorIdx, .small s.items.health.ctorIdx,
   .small s.policy.health.ctorIdx, .count s.borrowers.entries.length, .count s.loans.entries.length,
   .count s.items.entries.length, .small (marksClear s.policy.reloaded)]

/-- Group 3: the journal's occupancy and level. -/
def State.groupJournal (s : State) : List Field :=
  [.count s.journal.occupancy, .small (levelOf s.journal.occupancy).ctorIdx]

/-- Group 4: the journal's positions and window, with a port's copy of the date-entry-lost counter. -/
def State.groupWindow (s : State) (dateEntryLost : Nat) : List Field :=
  [.seq s.journal.head, .seq s.journal.cursor, .seq s.journal.tail, .count s.journal.window,
   .flag (s.journal.window != 0), .count dateEntryLost]

/-- Group 5: the engine and the sweep. -/
def State.groupEngine (s : State) : List Field :=
  optField .small (s.engine.serving.map fun v => v.who.ctorIdx)
    ++ [.small (members s.engine.waiting).length, .small s.sweep.state.ctorIdx, .count s.sweep.cursor,
        .flag s.clock.sweepPending, .flag s.clock.sweepRepeat]

/-- Group 7: the Scrubber. -/
def State.groupScrub (s : State) : List Field :=
  [.small s.scrub.table.ctorIdx, .count s.scrub.cursor, .count s.scrub.passes]

/-- Group 8: the port. -/
def PortState.group (q : PortState) : List Field :=
  [.count q.frameErrors, .flag q.overflow, .small q.notices.length]

/-- Group 9: the port's own desk. -/
def DeskContext.group (x : DeskContext) : List Field :=
  optField .ident (x.bound.map (·.borrower)) ++ optField .time (x.bound.map (·.time)) ++ optField .count x.idle
    ++ [.small x.presence.ctorIdx, .small x.queue.length, .flag x.overflow, .flag x.readEmpty]

/-- Group 10: the other desk, on the Console port. -/
def DeskContext.otherGroup (x : DeskContext) : List Field :=
  optField .ident (x.bound.map (·.borrower)) ++ [.small x.presence.ctorIdx, .small x.queue.length]

/-- Group 11: a desk as the Uplink port sees it. -/
def DeskContext.uplinkGroup (x : DeskContext) : List Field := [.flag x.bound.isSome, .small x.queue.length]

/-- Group 12: a wand, with a port's copy of its counters and record. -/
def State.groupWand (s : State) (d : Desk) (c : WandCounters) : List Field :=
  [.small (s.desk d).wand.state.ctorIdx, .small (s.terms d).wandMode.ctorIdx, .count c.goodRead, .count c.misread,
   .count c.duplicate]
    ++ optField .small (c.lastMisread.map fun m => m.cause.ctorIdx)
    ++ optField .small (c.lastMisread.bind (·.position))

/-- Group 13: a spooler, with a port's copy of its lost-slip counter. -/
def State.groupSpooler (s : State) (d : Desk) (lost : Nat) : List Field :=
  let x := s.desk d
  [.small x.spooler.state.ctorIdx, .flag x.lines.paperOut, .small x.spooler.spool.length]
    ++ optField .ident (x.ctx.openSlip.map (·.borrower))
    ++ [.small ((x.ctx.openSlip.map fun o => o.lines.length).getD 0)] ++ optField .small x.ctx.gather ++ [.count lost]

/-- The groups of a port's STATUS, in R166's order. -/
def State.statusFields (s : State) : Port → List Field
  | .console =>
    s.groupPart ++ s.groupTables ++ s.groupJournal ++ s.groupWindow s.shares.dateEntryConsole ++ s.groupEngine
      ++ [.count s.shares.dayMarkConsole] ++ s.groupScrub ++ s.consolePort.group ++ s.console.ctx.group
      ++ s.kiosk.ctx.otherGroup ++ s.groupWand .console s.shares.wandAConsole
      ++ s.groupWand .kiosk s.shares.wandBConsole ++ s.groupSpooler .console s.shares.lostAConsole
      ++ s.groupSpooler .kiosk s.shares.lostBConsole
  | .kiosk =>
    s.groupPart ++ s.groupTables ++ s.groupJournal ++ s.groupEngine ++ s.groupScrub ++ s.kioskPort.group
      ++ s.kiosk.ctx.group ++ s.groupWand .kiosk s.shares.wandBKiosk ++ s.groupSpooler .kiosk s.shares.lostBKiosk
  | .uplink =>
    s.groupPart ++ s.groupTables ++ s.groupJournal ++ s.groupWindow s.shares.dateEntryUplink ++ s.groupEngine
      ++ [.count s.shares.dayMarkUplink] ++ s.groupScrub ++ s.uplinkPort.group ++ s.console.ctx.uplinkGroup
      ++ s.kiosk.ctx.uplinkGroup

/-- The copies a port's STATUS clears (R166). -/
def Shares.cleared (x : Shares) : Port → Shares
  | .console =>
    { x with
      wandAConsole := WandCounters.start, wandBConsole := WandCounters.start, lostAConsole := 0, lostBConsole := 0
      dayMarkConsole := 0, dateEntryConsole := 0 }
  | .kiosk => { x with wandBKiosk := WandCounters.start, lostBKiosk := 0 }
  | .uplink => { x with dayMarkUplink := 0, dateEntryUplink := 0 }

/-- The sticky flags of a port's own desk cleared (R28). -/
def State.clearDeskFlags (s : State) (p : Port) : State :=
  match portDesk p with
  | some d => s.modCtx d fun x => { x with overflow := false, readEmpty := false }
  | none => s

/-- Everything a port's STATUS clears (R166). -/
def State.clearReported (s : State) (p : Port) : State :=
  ({ s with shares := s.shares.cleared p }.clearDeskFlags p).modPort p fun q =>
    { q with frameErrors := 0, overflow := false }

/-- The own rule of STATUS (R166). -/
def ownStatus (p : Port) (s : State) : State := (s.clearReported p).reply p .ok {} (s.statusFields p)

/-- A STATUS frame. -/
def onStatus (p : Port) (tag : Byte) (payload : List Byte) (s : State) : State :=
  s.receive p tag .status payload (ownStatus p)

/-- STATUS (R166). -/
def execStatus (p : Port) (tag : Byte) (payload : List Byte) (s : State) : Outcome State Fault Refusal :=
  .next (onStatus p tag payload s)

end Sys2Proof.Machine
end

