-- ==== Sys2Proof/Machine/Frames.lean ====
section
/-! DEFINITION. The port events: UNKNOWN_REQUEST (R161), BAD_FRAME, INTER_BYTE_TIMEOUT and STOP_BIT_ERROR (R159),
CONSOLE_SELECT and OUTPUT_FRAME_SENT (R160), PORT_BREAK (R163). An event whose condition does not hold changes nothing
(log 1; the bytes of the receiver's events: log 8). -/

namespace Sys2Proof.Machine

open Host

/-! ## UNKNOWN_REQUEST -/

/-- A good frame whose code names no request (R161 steps 1 and 2). -/
def onUnknownRequest (p : Port) (tag code : Byte) (s : State) : State :=
  let s1 := s.modPort p fun q => { q with rx := .hunt }
  s1.answer p tag code (if (s.port p).inFlight.isSome then .busy else .unknownRequest)

/-- UNKNOWN_REQUEST (R161); a code that names a request is none. -/
def execUnknownRequest (p : Port) (tag code : Byte) (_payload : List Byte) (s : State) :
    Outcome State Fault Refusal :=
  .next (if (ReqCode.ofByte code).isNone then onUnknownRequest p tag code s else s)

/-- A good frame judged by its code (R161). -/
def dispatchFrame (p : Port) (tag code : Byte) (payload : List Byte) (s : State) : State :=
  match ReqCode.ofByte code with
  | none => onUnknownRequest p tag code s
  | some c =>
    match c with
    | .scanTake => onScanTake p tag payload s
    | .checkout => onCheckout p tag payload s
    | .returnItem => onReturn p tag payload s
    | .renew => onRenew p tag payload s
    | .borrowerQuery => onBorrowerQuery p tag payload s
    | .loansList => onLoansList p tag payload s
    | .slipCut => onSlipCut p tag payload s
    | .printerResume => onPrinterResume p tag payload s
    | .unbind => onUnbind p tag payload s
    | .noticeTake => onNoticeTake p tag payload s
    | .status => onStatus p tag payload s
    | .finePay => onFinePay p tag payload s
    | .borrowerAdd => onBorrowerAdd p tag payload s
    | .itemFlagSet => onItemFlagSet p tag payload s
    | .policyLoad => onPolicyLoad p tag payload s
    | .dateSet => onDateSet p tag payload s
    | .deskOpen => onDeskOpen p tag payload s
    | .deskClose => onDeskClose p tag payload s
    | .journalArm => onJournalArm p tag payload s
    | .journalFetch => onJournalFetch p tag payload s
    | .journalRelease => onJournalRelease p tag payload s
    | .journalRewind => onJournalRewind p tag payload s
    | .borrowerLoad => onBorrowerLoad p tag payload s
    | .itemFlagsLoad => onItemFlagsLoad p tag payload s
    | .markAll => onMarkAll p tag payload s
    | .purgeMarked => onPurgeMarked p tag payload s
    | .tableClear => onTableClear p tag payload s
    | .tableRebuild => onTableRebuild p tag payload s
    | .loanLoad => onLoanLoad p tag payload s
    | .nightEnter => onNightEnter p tag payload s
    | .nightLeave => onNightLeave p tag payload s

/-! ## BAD_FRAME, INTER_BYTE_TIMEOUT, STOP_BIT_ERROR -/

/-- A frame error counted, the partial or whole frame discarded (R159). -/
def State.frameError (s : State) (p : Port) : State :=
  s.modPort p fun q => { q with rx := .hunt, frameErrors := satAdd q.frameErrors 1 }

/-- A damaged frame: counted and answered BAD_FRAME, with tag 0 and request code 0 (R159). -/
def State.damagedFrame (s : State) (p : Port) : State := (s.frameError p).answer p 0 0 .badFrame

/-- The bytes end a damaged frame: the receiver finds that alone, at the last of them (log 8). -/
def endsBad (rx : Receiver) (received : List Byte) : Bool := rx.run received == (.hunt, [.bad])

/-- BAD_FRAME (R159). -/
def execBadFrame (p : Port) (received : List Byte) (s : State) : Outcome State Fault Refusal :=
  .next (if endsBad (s.port p).rx received then s.damagedFrame p else s)

/-- The bytes leave a partial frame: the receiver is in COLLECTING after them, and has found nothing (log 8). -/
def endsPartial (rx : Receiver) (received : List Byte) : Bool :=
  match rx.run received with
  | (.collecting _, []) => true
  | _ => false

/-- INTER_BYTE_TIMEOUT (R159). -/
def execInterByteTimeout (p : Port) (received : List Byte) (s : State) : Outcome State Fault Refusal :=
  .next (if endsPartial (s.port p).rx received then s.frameError p else s)

/-- STOP_BIT_ERROR (R159), at a UART port. -/
def execStopBitError (p : Port) (received : List Byte) (s : State) : Outcome State Fault Refusal :=
  .next (if p != .console && endsPartial (s.port p).rx received then s.frameError p else s)

/-! ## OUTPUT_FRAME_SENT -/

/-- The head frame leaves the output queue; a reply ends its request's flight (R160, R161). -/
def PortState.frameLeaves (q : PortState) : PortState :=
  match q.outQ with
  | [] => q
  | f :: rest => { q with outQ := rest, sent := 0, inFlight := if f.isReply then none else q.inFlight }

/-- OUTPUT_FRAME_SENT (R160): the head frame leaves. At the Console port too, whatever has been clocked out (log 36). -/
def execOutputFrameSent (p : Port) (s : State) : Outcome State Fault Refusal :=
  .next (s.modPort p PortState.frameLeaves)

/-! ## CONSOLE_SELECT -/

/-- The bytes still to be clocked out of the head frame; none with no frame waiting (R160). -/
def PortState.unsent (q : PortState) : List Byte :=
  match q.outQ with
  | [] => []
  | f :: _ => f.bytes.drop q.sent

/-- What the part clocks out in a transfer of `n` bytes (R160): the attention byte, the head frame, then zeros. -/
def PortState.clockedOut (q : PortState) (n : Nat) : List Byte :=
  (q.attentionByte :: (q.unsent ++ List.replicate n 0)).take n

/-- What a transfer of `n` bytes takes from the output queue (R160): the head frame leaves with its last byte, or `n - 1`
more of its bytes have been clocked out. -/
def PortState.transferOut (q : PortState) (n : Nat) : PortState :=
  if q.unsent.length ≤ n - 1 then q.frameLeaves else { q with sent := q.sent + (n - 1) }

/-- What the receiver finds is judged: a good frame by its code, a damaged one answered (R159, R161). -/
def State.judge (s : State) (p : Port) : RxEvent → State
  | .good tag code payload => dispatchFrame p tag code payload s
  | .bad => s.damagedFrame p

/-- A port's receiver takes bytes, and what it finds in them is judged in turn (R159, R161). -/
def State.takeBytes (s : State) (p : Port) (received : List Byte) : State :=
  let (rx, found) := (s.port p).rx.run received
  (found.foldl (fun s e => s.judge p e) s).modPort p fun q => { q with rx := rx }

/-- CONSOLE_SELECT: one whole transfer, a byte going out as each byte comes in (R159, R160; log 9). The attention byte is
the first byte out, so `k` bytes have come in before the last of `k` bytes of the head frame is clocked out: what they
complete is judged with the frame still in the queue and its request in flight, and the rest after the frame has left. -/
def onConsoleSelect (clockedIn : List Byte) (s : State) : State :=
  let n := clockedIn.length
  let k := s.consolePort.unsent.length
  let s1 := s.modPort .console fun q => { q with transfer := q.clockedOut n }
  let s2 := (s1.takeBytes .console (clockedIn.take k)).modPort .console (·.transferOut n)
  s2.takeBytes .console (clockedIn.drop k)

/-- CONSOLE_SELECT (R160). -/
def execConsoleSelect (clockedIn : List Byte) (s : State) : Outcome State Fault Refusal :=
  .next (onConsoleSelect clockedIn s)

/-! ## PORT_BREAK -/

/-- A port at a break (R163 steps 1 to 4). -/
def PortState.break (q : PortState) : PortState :=
  { q with
    rx := .hunt
    outQ := []
    sent := 0
    notices := []
    inFlight :=
      match q.inFlight with
      | some fl => if fl.op.isSome then some { fl with discard := true } else none
      | none => none }

/-- The journal at a break of the Uplink port (R131, R163). -/
def Journal.disarm (j : Journal) : Journal := { j with window := 0, cursor := j.head }

/-- A port break (R163). -/
def onPortBreak (p : Port) (s : State) : State :=
  let s1 := s.modPort p PortState.break
  if p = .uplink then s1.modJournal Journal.disarm else s1

/-- PORT_BREAK (R163). -/
def execPortBreak (p : Port) (s : State) : Outcome State Fault Refusal := .next (onPortBreak p s)

end Sys2Proof.Machine
end

