-- ==== Sys2Proof/Machine/Printers.lean ====
section
/-! DEFINITION. The printer events: BUSY_RELEASE and WAIT_TIMER_EXPIRY (R114), GAP_END (R115), PAPER_OUT_ASSERT and
PAPER_OUT_RELEASE (R117). An event whose condition does not hold changes nothing (log 1). -/

namespace Sys2Proof.Machine

open Host

/-- The feed gap after a cut code, in milliseconds (R115). -/
def gapTime : Nat := 300

/-- The cut code taken: the slip leaves the head of the spool, and the printer enters GAP (R115). -/
def Spooler.completeSlip (x : Spooler) : Spooler :=
  { x with
    spool := x.spool.drop 1, state := .gap, text := [], posLine := 0, posChar := 0, strobed := false
    waitTimer := none, gapTimer := some gapTime }

/-- A strobed character taken (R114): the print position advances past it, then paper-out, the cut code or the next
character decides. -/
def State.takeCharacter (s : State) (d : Desk) : State :=
  let s1 := s.modSpooler d Spooler.advance
  if (s.desk d).lines.paperOut then s1.enterNoPaper d
  else if (s.desk d).spooler.atCut then s1.modSpooler d Spooler.completeSlip
  else (s1.modSpooler d fun x => { x with state := .printing }).printNext d

/-- Busy is released (R114); in any state but WAITING it has no effect on the spooler. -/
def onBusyRelease (d : Desk) (s : State) : State :=
  if (s.desk d).lines.busy then
    let s1 := s.modLines d fun l => { l with busy := false }
    if (s.desk d).spooler.state = .waiting then
      if (s.desk d).spooler.strobed then s1.takeCharacter d else s1.strobe d
    else s1
  else s

/-- BUSY_RELEASE (R114). -/
def execBusyRelease (d : Desk) (s : State) : Outcome State Fault Refusal := .next (onBusyRelease d s)

/-- The wait timer expires: the character is not taken (R114, R116). -/
def onWaitTimerExpiry (d : Desk) (s : State) : State :=
  if (s.desk d).spooler.state = .waiting ∧ (s.desk d).spooler.waitTimer.isSome then
    if (s.desk d).lines.paperOut then s.enterNoPaper d else s.enterStalled d
  else s

/-- WAIT_TIMER_EXPIRY (R114). -/
def execWaitTimerExpiry (d : Desk) (s : State) : Outcome State Fault Refusal := .next (onWaitTimerExpiry d s)

/-- The feed gap ends (R115); an IDLE printer may complete the closing drain (R118). -/
def onGapEnd (d : Desk) (s : State) : State :=
  if (s.desk d).spooler.state = .gap then
    (if (s.desk d).lines.paperOut then s.enterNoPaper d else s.printHead d).settle
  else s

/-- GAP_END (R115). -/
def execGapEnd (d : Desk) (s : State) : Outcome State Fault Refusal := .next (onGapEnd d s)

/-- Paper-out asserts (R117): acted on at once in IDLE and in PRINTING before a strobe. -/
def onPaperOutAssert (d : Desk) (s : State) : State :=
  if (s.desk d).lines.paperOut then s
  else
    let s1 := s.modLines d fun l => { l with paperOut := true }
    match (s.desk d).spooler.state with
    | .idle | .printing => s1.enterNoPaper d
    | .off | .waiting | .gap | .stalled | .noPaper => s1

/-- PAPER_OUT_ASSERT (R117). -/
def execPaperOutAssert (d : Desk) (s : State) : Outcome State Fault Refusal := .next (onPaperOutAssert d s)

/-- Paper-out is released (R117): in NO_PAPER the head slip restarts, or the printer is IDLE. -/
def onPaperOutRelease (d : Desk) (s : State) : State :=
  if (s.desk d).lines.paperOut then
    let s1 := s.modLines d fun l => { l with paperOut := false }
    if (s.desk d).spooler.state = .noPaper then (s1.resumeHead d).settle else s1
  else s

/-- PAPER_OUT_RELEASE (R117). -/
def execPaperOutRelease (d : Desk) (s : State) : Outcome State Fault Refusal := .next (onPaperOutRelease d s)

end Sys2Proof.Machine
end

