-- ==== Sys2Proof/Machine/Supply.lean ====
section
/-! DEFINITION. Supply, reset, battery and start-up: SUPPLY_FAIL and RESET_ASSERT (R96, R151), BATTERY_BELOW_HOLD
(R152), SUPPLY_VALID and RESET_RELEASE (R151), STARTUP_INTACT (R153), STARTUP_LOST (R154), BATTERY_SAMPLE (R155). An
event whose condition does not hold changes nothing (log 1). -/

namespace Sys2Proof.Machine

open Host

/-! ## Entry to RETAINING -/

/-- The commit of a port's operation or step, without what follows it at the engine (R96). -/
def State.completeOp (s : State) (v : Serving) (p : Port) : EngineOp → State
  | .checkout _ _ _ =>
    match v.plan with
    | .checkout c => commitCheckout s v p c
    | _ => s
  | .returnItem item => commitReturn s v p item
  | .renew _ item _ =>
    match v.plan, s.loan? item with
    | .renew r, some l => commitRenew s v p r l
    | _, _ => s
  | .finePay borrower amount =>
    match s.borrower? borrower with
    | some r => commitFinePay s v p r amount
    | none => s
  | .borrowerAdd borrower category => commitBorrowerAdd s v p borrower category
  | .itemFlagSet item flag set => commitItemFlag s v p item flag set
  | .borrowerQuery _ => s
  | .loansList _ _ => s
  | .policyLoad contents => commitPolicy s p contents
  | .borrowerLoad todo done =>
    match todo with
    | r :: rest => stepBorrowerLoad s p r rest done
    | [] => s
  | .itemFlagsLoad todo done =>
    match todo with
    | r :: rest => stepItemLoad s p r rest done
    | [] => s
  | .loanLoad todo done =>
    match todo with
    | r :: rest => stepLoanLoad s v p r rest done
    | [] => s
  | .markAll cursor marked => stepMarkAll s p cursor marked
  | .purgeMarked cursor removed withdrawn => stepPurge s p cursor removed withdrawn
  | .clearLoans phase cursor removed corrected =>
    if phase = 1 then stepClearLoans s p cursor removed else stepClearCounts s p cursor removed corrected
  | .clearItems cursor removed => stepClearItems s p cursor removed
  | .rebuildBorrowers phase cursor removed inserted unplaced =>
    if phase = 1 then stepRebuildEmpty s p cursor removed
    else if phase = 2 then stepRebuildPlace s v p cursor removed inserted unplaced
    else stepRebuildCount s p cursor removed inserted unplaced

/-- A commit that has begun completes, with all its changes (R96). -/
def State.completeServed (s : State) : State :=
  match s.served with
  | some (v, p, op) => s.completeOp v p op
  | none =>
    match s.servedSweep with
    | some v => (commitSweep s v).1
    | none => if s.servedScrub then commitScrub s else s

/-- Entry to RETAINING (R96, R124, R151): a begun commit completes, the waiting DATE_SET entries are tested as the
engine becomes FREE, and every volatile value is lost. The healths that the comparisons of an interrupted start-up have
changed are kept with their tables (R153, "Interrupted"). -/
def State.enterRetaining (s : State) (commitBegun : Bool) : State :=
  let s1 := if commitBegun then s.completeServed else s
  ((s1.modEngine fun e => { e with serving := none }).flushDates.loseVolatile).setPart .retaining

/-- A cause of RETAINING; a second one changes nothing (R151). -/
def State.retain (s : State) (commitBegun : Bool) : State :=
  if s.control.part = .retaining then s else s.enterRetaining commitBegun

/-- The supply monitor reports a supply fail (R151). -/
def onSupplyFail (commitBegun : Bool) (s : State) : State :=
  if s.control.supplyValid then (s.retain commitBegun).modControl fun c => { c with supplyValid := false }
  else s

/-- SUPPLY_FAIL (R151). -/
def execSupplyFail (commitBegun : Bool) (s : State) : Outcome State Fault Refusal :=
  .next (onSupplyFail commitBegun s)

/-- The reset line asserts (R151). -/
def onResetAssert (commitBegun : Bool) (s : State) : State :=
  if s.control.resetAsserted then s
  else (s.retain commitBegun).modControl fun c => { c with resetAsserted := true }

/-- RESET_ASSERT (R151). -/
def execResetAssert (commitBegun : Bool) (s : State) : Outcome State Fault Refusal :=
  .next (onResetAssert commitBegun s)

/-! ## In RETAINING -/

/-- The battery falls below the hold threshold in RETAINING with the supply failed: the latch clears (R152). -/
def onBatteryBelowHold (s : State) : State :=
  if s.control.part = .retaining ∧ s.control.supplyValid = false then s.modControl fun c => { c with latch := false }
  else s

/-- BATTERY_BELOW_HOLD (R152). -/
def execBatteryBelowHold (s : State) : Outcome State Fault Refusal := .next (onBatteryBelowHold s)

/-- A desk's presence state sampled from its input (R29). -/
def DeskSide.sample (x : DeskSide) : DeskSide := { x with ctx := { x.ctx with presence := x.lines.presence } }

/-- Entry to STARTING (R29, R148, R153): the presence states are sampled; the ports begin at their start-up values (R169);
no table has been compared. -/
def State.enterStarting (s : State) : State :=
  { s with
    console := s.console.sample, kiosk := s.kiosk.sample, consolePort := PortState.start
    kioskPort := PortState.start, uplinkPort := PortState.start
    control := { s.control with startUp := StartUp.start } }.setPart .starting

/-- The part leaves RETAINING once the supply is valid and the reset line released (R151). -/
def State.leaveRetaining (s : State) : State :=
  if s.control.part = .retaining ∧ s.control.supplyValid = true ∧ s.control.resetAsserted = false then s.enterStarting
  else s

/-- The supply becomes valid (R151). -/
def onSupplyValid (s : State) : State := (s.modControl fun c => { c with supplyValid := true }).leaveRetaining

/-- SUPPLY_VALID (R151). -/
def execSupplyValid (s : State) : Outcome State Fault Refusal := .next (onSupplyValid s)

/-- The reset line releases (R151). -/
def onResetRelease (s : State) : State := (s.modControl fun c => { c with resetAsserted := false }).leaveRetaining

/-- RESET_RELEASE (R151). -/
def execResetRelease (s : State) : Outcome State Fault Refusal := .next (onResetRelease s)

/-! ## Start-up -/

/-- The four tables in the order of the comparison (R153). -/
def allTables : List TableId := [.borrowers, .loans, .items, .policy]

/-- A table agrees with its sum: the checks computed afresh add up to it (R45). -/
def State.agrees (s : State) : TableId → Bool
  | .borrowers => recomputedSum borrowerCheck s.borrowers.entries == s.borrowers.sum
  | .loans => recomputedSum loanCheck s.loans.entries == s.loans.sum
  | .items => recomputedSum exceptionCheck s.items.entries == s.items.sum
  | .policy => sectionSum (sectionChecks s.policy.data) == s.policy.sum

/-- Change the progress of a start-up. -/
def State.modStartUp (s : State) (f : StartUp → StartUp) : State :=
  s.modControl fun c => { c with startUp := f c.startUp }

/-- The comparison of one table: one that disagrees becomes SUSPECT, and one already SUSPECT keeps that health. The notice
waits for the end of start-up (R46, R153). -/
def State.compare (s : State) (t : TableId) : State :=
  let s1 := s.modStartUp fun u => { u with compared := u.compared + 1 }
  if s.agrees t = false ∧ s.health t = .sound then
    (s1.setHealth t .suspect).modStartUp fun u => { u with found := u.found ++ [t] }
  else s1

/-- The tables this start-up has still to compare (R153 step 1). -/
def State.toCompare (s : State) : List TableId := allTables.drop s.control.startUp.compared

/-- The start-up's next comparison, where the part is in STARTING with the latch set and one remains (R153; log 38). -/
def State.compareNext (s : State) : State :=
  if s.control.part = .starting ∧ s.control.latch = true then (s.toCompare.take 1).foldl State.compare s else s

/-- The comparisons that remain (R153 step 1). -/
def State.compareRest (s : State) : State := s.toCompare.foldl State.compare s

/-- The start-up TABLE_FAULT of a table that is SUSPECT: its cause says whether it became so in this start-up, or was so
before it (R46, R153 step 4). -/
def State.startFault (s : State) (t : TableId) : State :=
  if s.health t = .suspect then
    s.notifyAll (.tableFault t (if s.control.startUp.found.contains t then .sumAtStart else .retained) none)
  else s

/-- The start-up JOURNAL_LEVEL, if the level is not CALM (R125). -/
def State.startLevel (s : State) : State :=
  let now := s.journal.occupancy
  if levelOf now = .calm then s else s.notifyConsoleUplink (.journalLevel (levelOf now) now)

/-- The entry that ends STARTING with retention intact (R153 step 3). -/
def State.startEntry (s : State) : State :=
  if !s.clock.dateUnset && s.todayOpen && s.withinHours then s.enterOpen else s.enterNight

/-- What follows the entry that ends STARTING: the sweep's pass, the Scrubber's first wait, the first battery sample
(R98, R155, R158; the order: log 20). -/
def State.afterStart (s : State) (below : Bool) : State :=
  (({ s with scrub := Scrub.start }.beginPassIfDue).requestEngine .scrubber).sampleBattery below

/-- Start-up with retention intact (R153): the comparisons that the milliseconds in STARTING have left (log 38), and what
follows them. Sweep-pending is set whether or not the date is set, and the pass begins
(R54, R65, R153; a sentence of R98 says otherwise of an unset date: log 33). The PRINTER_STATE of an entry to OPEN stands
between JOURNAL_LEVEL and PART_STATE, and the TABLE_FAULT notices stand in the order of the comparison (log 20). The last
start-up kind changes here, at the end of start-up, and keeps its old value until then (log 37). -/
def onStartupIntact (below : Bool) (s : State) : State :=
  if s.control.part = .starting ∧ s.control.latch = true then
    let s1 := (s.modControl fun c => { c with startKind := .intact }).compareRest
    let s2 := { s1 with clock := { s1.clock with sweepPending := true, sweepRepeat := false } }
    let s3 := (allTables.foldl State.startFault s2).startLevel.modStartUp fun _ => StartUp.start
    s3.startEntry.afterStart below
  else s

/-- STARTUP_INTACT (R153). -/
def execStartupIntact (batteryBelow : Bool) (s : State) : Outcome State Fault Refusal :=
  .next (onStartupIntact batteryBelow s)

/-- The retained state initialised after retention loss (R154 steps 1 to 5); the last start-up kind changes here
(log 37). The second of the time of day begins afresh,
and the second timers keep their phase (log 34). -/
def State.initialise (s : State) : State :=
  { s with
    borrowers := { entries := [], sum := 0, health := .sound }
    loans := { entries := [], sum := 0, health := .sound }
    loanLists := []
    items := { entries := [], sum := 0, health := .sound }
    policy := defaultPolicy
    journal :=
      { entries := [{ sequence := 1, fields := restartDraft, check := entryCheck restartDraft 1 }],
        head := 1, cursor := 1, tail := 2, window := 0, waitingDates := [] }
    clock :=
      { s.clock with today := 0, time := 0, dateUnset := true, sweepPending := false, sweepRepeat := false, fraction := 0 }
    control := { s.control with latch := true, startKind := .lost, startUp := StartUp.start } }

/-- Start-up with retention lost (R154). -/
def onStartupLost (below : Bool) (s : State) : State :=
  if s.control.part = .starting ∧ s.control.latch = false then s.initialise.enterNight.afterStart below else s

/-- STARTUP_LOST (R154). -/
def execStartupLost (batteryBelow : Bool) (s : State) : Outcome State Fault Refusal :=
  .next (onStartupLost batteryBelow s)

/-- BATTERY_SAMPLE (R155): outside RETAINING and STARTING. -/
def onBatterySample (below : Bool) (s : State) : State :=
  if s.control.part.running then s.sampleBattery below else s

/-- BATTERY_SAMPLE (R155). -/
def execBatterySample (batteryBelow : Bool) (s : State) : Outcome State Fault Refusal :=
  .next (onBatterySample batteryBelow s)

end Sys2Proof.Machine
end

