-- ==== Sys2Proof/Machine/WandEvents.lean ====
section
/-! DEFINITION. The wand and desk events: WAND_TRANSITION, QUIET_PERIOD, SCAN_END (R2, R3, R6 to R10),
WAND_RESTS_ON_DARK (R4), PRESENCE_CHANGE (R12, R21), HOLD_TIMER_EXPIRY (R12), IDLE_TIMER_EXPIRY (R20) and
GATHER_TIMER_EXPIRY (R108). An event whose condition does not hold changes nothing (log 1). -/

namespace Sys2Proof.Machine

open Host

/-! ## WAND_TRANSITION -/

/-- The recorded width of an element between two timer readings, across a wrap (R2). -/
def elementWidth (before now : Stamp) : Nat := clampTo 1 65535 (now - before).toNat

/-- The most elements a list stores (R2). -/
def maxElements : Nat := 84

/-- An element ended: its width stored while there is room, and counted (R2, R3). -/
def Wand.addElement (w : Wand) (width : Nat) : Wand :=
  { w with
    elements := if w.elements.length < maxElements then w.elements ++ [width] else w.elements
    count := min (w.count + 1) 255 }

/-- An Active wand at a change of its line (R3). -/
def Wand.transition (w : Wand) (level : LineLevel) (stamp : Stamp) : Wand :=
  let w1 := match w.phase, level with
    | .ready, .dark => { w with phase := .scanning, elements := [], count := 0 }
    | .scanning, _ => w.addElement (elementWidth w.lastTransition stamp)
    | _, _ => w
  { w1 with line := level, lastTransition := stamp }

/-- A change of a wand line; ignored by a decoder that is not Active (R3, R11). -/
def onWandTransition (d : Desk) (level : LineLevel) (stamp : Stamp) (s : State) : State :=
  if (s.desk d).lines.wand = level then s
  else
    (s.modLines d fun l => { l with wand := level }).modWand d fun w =>
      if w.state = .active then w.transition level stamp else w

/-- WAND_TRANSITION (R3). -/
def execWandTransition (d : Desk) (level : LineLevel) (stamp : Stamp) (s : State) : Outcome State Fault Refusal :=
  .next (onWandTransition d level stamp s)

/-! ## QUIET_PERIOD, SCAN_END, WAND_RESTS_ON_DARK -/

/-- QUIET_PERIOD: 50,000 µs of LIGHT in QUIET_WAIT (R3). -/
def execQuietPeriod (d : Desk) (s : State) : Outcome State Fault Refusal :=
  .next (s.modWand d fun w =>
    if w.state = .active ∧ w.phase = .quietWait ∧ w.line = .light then { w with phase := .ready } else w)

/-- A wand at the end of a scan: READY, with an empty list (R2, R3). -/
def Wand.endScan (w : Wand) : Wand := { w with phase := .ready, elements := [], count := 0 }

/-- A valid label is dropped: it repeats the last accepted label within the window (R10). -/
def State.dropsLabel (s : State) (d : Desk) (kind : LabelKind) (number : Nat) : Bool :=
  let w := (s.desk d).wand
  (s.terms d).doubleScan != 0 && w.lastAccepted == some (kind, number) && w.doubleScan < (s.terms d).doubleScan

/-- A valid label: counted, then dropped or accepted and handed over (R10). -/
def State.validLabel (s : State) (d : Desk) (kind : LabelKind) (number : Nat) (direction : Direction) : State :=
  let s1 := s.modWandCopies d fun c => { c with goodRead := satAdd c.goodRead 1 }
  if s.dropsLabel d kind number then s1.modWandCopies d fun c => { c with duplicate := satAdd c.duplicate 1 }
  else
    (s1.modWand d fun w => { w with lastAccepted := some (kind, number), doubleScan := 0 }).labelArrives d
      { kind, number, direction, time := s.clock.time }

/-- The end of a scan (R3): decoded, with exactly one outcome. -/
def onScanEnd (d : Desk) (s : State) : State :=
  let w := (s.desk d).wand
  if w.state = .active ∧ w.phase = .scanning ∧ w.line = .light then
    let s1 := s.modWand d Wand.endScan
    match decodeScan w.count w.elements with
    | .misread m => s1.misread d m
    | .label kind number direction => s1.validLabel d kind number direction
  else s

/-- SCAN_END (R3). -/
def execScanEnd (d : Desk) (s : State) : Outcome State Fault Refusal := .next (onScanEnd d s)

/-- The wand rests on dark while SCANNING (R4). -/
def onWandRestsOnDark (d : Desk) (s : State) : State :=
  let w := (s.desk d).wand
  if w.state = .active ∧ w.phase = .scanning ∧ w.line = .dark then
    (s.modWand d Wand.abandon).misread d { cause := .resting, position := none }
  else s

/-- WAND_RESTS_ON_DARK (R4). -/
def execWandRestsOnDark (d : Desk) (s : State) : Outcome State Fault Refusal := .next (onWandRestsOnDark d s)

/-! ## PRESENCE_CHANGE and the timers -/

/-- The hold timer at a change of the presence input, read before the wand is re-evaluated (R12). -/
def Wand.holdAt (w : Wand) (mode : WandMode) (input : Presence) : Option Nat :=
  if mode = .presenceHold then
    match input with
    | .asserted => none
    | .released => if w.state = .active then some holdTime else w.hold
  else w.hold

/-- A change of a presence input: the presence state, the hold timer and the wand, then the unbind on leave (R12, R13,
R16, R21). -/
def onPresenceChange (d : Desk) (input : Presence) (s : State) : State :=
  if (s.desk d).lines.presence = input then s
  else
    let s1 := ((s.modLines d fun l => { l with presence := input }).modCtx d fun x => { x with presence := input })
    let s2 := (s1.modWand d fun w => { w with hold := w.holdAt (s.terms d).wandMode input }).evalWand d
    if input = .released ∧ (s.terms d).unbindOnLeave then s2.unbindIfBound d .left else s2

/-- PRESENCE_CHANGE (R21). -/
def execPresenceChange (d : Desk) (input : Presence) (s : State) : Outcome State Fault Refusal :=
  .next (onPresenceChange d input s)

/-- The hold timer expires (R12). -/
def onHoldTimerExpiry (d : Desk) (s : State) : State :=
  if (s.desk d).wand.hold.isSome then (s.modWand d Wand.stopHold).evalWand d else s

/-- HOLD_TIMER_EXPIRY (R12). -/
def execHoldTimerExpiry (d : Desk) (s : State) : Outcome State Fault Refusal := .next (onHoldTimerExpiry d s)

/-- The idle timer expires: the desk is unbound with cause IDLE (R19, R20). -/
def onIdleTimerExpiry (d : Desk) (s : State) : State :=
  if (s.desk d).ctx.idle.isSome then s.unbindIfBound d .idle else s

/-- IDLE_TIMER_EXPIRY (R20). -/
def execIdleTimerExpiry (d : Desk) (s : State) : Outcome State Fault Refusal := .next (onIdleTimerExpiry d s)

/-- The gather timer expires: the open slip is cut (R108). -/
def onGatherTimerExpiry (d : Desk) (s : State) : State :=
  if (s.desk d).ctx.gather.isSome then s.cut d else s

/-- GATHER_TIMER_EXPIRY (R108). -/
def execGatherTimerExpiry (d : Desk) (s : State) : Outcome State Fault Refusal := .next (onGatherTimerExpiry d s)

end Sys2Proof.Machine
end

