-- ==== Sys2Proof/Machine/Dispatch.lean ====
section
/-! DEFINITION. The meaning of each command: one arm per constructor of `Instr`, each one direct call of its meaning. -/

namespace Sys2Proof.Machine

open Host

def exec (i : Instr) (s : State) : Host.Outcome State Fault Refusal :=
  match i with
  | .wandTransition d level stamp => Sys2Proof.Machine.execWandTransition d level stamp s
  | .quietPeriod d => Sys2Proof.Machine.execQuietPeriod d s
  | .scanEnd d => Sys2Proof.Machine.execScanEnd d s
  | .wandRestsOnDark d => Sys2Proof.Machine.execWandRestsOnDark d s
  | .presenceChange d input => Sys2Proof.Machine.execPresenceChange d input s
  | .holdTimerExpiry d => Sys2Proof.Machine.execHoldTimerExpiry d s
  | .idleTimerExpiry d => Sys2Proof.Machine.execIdleTimerExpiry d s
  | .gatherTimerExpiry d => Sys2Proof.Machine.execGatherTimerExpiry d s
  | .scanTake p tag payload => Sys2Proof.Machine.execScanTake p tag payload s
  | .checkout p tag payload => Sys2Proof.Machine.execCheckout p tag payload s
  | .returnItem p tag payload => Sys2Proof.Machine.execReturnItem p tag payload s
  | .renew p tag payload => Sys2Proof.Machine.execRenew p tag payload s
  | .borrowerQuery p tag payload => Sys2Proof.Machine.execBorrowerQuery p tag payload s
  | .loansList p tag payload => Sys2Proof.Machine.execLoansList p tag payload s
  | .slipCut p tag payload => Sys2Proof.Machine.execSlipCut p tag payload s
  | .printerResume p tag payload => Sys2Proof.Machine.execPrinterResume p tag payload s
  | .unbind p tag payload => Sys2Proof.Machine.execUnbind p tag payload s
  | .noticeTake p tag payload => Sys2Proof.Machine.execNoticeTake p tag payload s
  | .status p tag payload => Sys2Proof.Machine.execStatus p tag payload s
  | .finePay p tag payload => Sys2Proof.Machine.execFinePay p tag payload s
  | .borrowerAdd p tag payload => Sys2Proof.Machine.execBorrowerAdd p tag payload s
  | .itemFlagSet p tag payload => Sys2Proof.Machine.execItemFlagSet p tag payload s
  | .policyLoad p tag payload => Sys2Proof.Machine.execPolicyLoad p tag payload s
  | .dateSet p tag payload => Sys2Proof.Machine.execDateSet p tag payload s
  | .deskOpen p tag payload => Sys2Proof.Machine.execDeskOpen p tag payload s
  | .deskClose p tag payload => Sys2Proof.Machine.execDeskClose p tag payload s
  | .nightEnter p tag payload => Sys2Proof.Machine.execNightEnter p tag payload s
  | .nightLeave p tag payload => Sys2Proof.Machine.execNightLeave p tag payload s
  | .journalArm p tag payload => Sys2Proof.Machine.execJournalArm p tag payload s
  | .journalFetch p tag payload => Sys2Proof.Machine.execJournalFetch p tag payload s
  | .journalRelease p tag payload => Sys2Proof.Machine.execJournalRelease p tag payload s
  | .journalRewind p tag payload => Sys2Proof.Machine.execJournalRewind p tag payload s
  | .borrowerLoad p tag payload => Sys2Proof.Machine.execBorrowerLoad p tag payload s
  | .itemFlagsLoad p tag payload => Sys2Proof.Machine.execItemFlagsLoad p tag payload s
  | .markAll p tag payload => Sys2Proof.Machine.execMarkAll p tag payload s
  | .purgeMarked p tag payload => Sys2Proof.Machine.execPurgeMarked p tag payload s
  | .tableClear p tag payload => Sys2Proof.Machine.execTableClear p tag payload s
  | .tableRebuild p tag payload => Sys2Proof.Machine.execTableRebuild p tag payload s
  | .loanLoad p tag payload => Sys2Proof.Machine.execLoanLoad p tag payload s
  | .unknownRequest p tag code payload => Sys2Proof.Machine.execUnknownRequest p tag code payload s
  | .badFrame p received => Sys2Proof.Machine.execBadFrame p received s
  | .interByteTimeout p received => Sys2Proof.Machine.execInterByteTimeout p received s
  | .stopBitError p received => Sys2Proof.Machine.execStopBitError p received s
  | .consoleSelect clockedIn => Sys2Proof.Machine.execConsoleSelect clockedIn s
  | .outputFrameSent p => Sys2Proof.Machine.execOutputFrameSent p s
  | .portBreak p => Sys2Proof.Machine.execPortBreak p s
  | .checkoutCommit => Sys2Proof.Machine.execCheckoutCommit s
  | .returnCommit => Sys2Proof.Machine.execReturnCommit s
  | .renewCommit => Sys2Proof.Machine.execRenewCommit s
  | .finePayCommit => Sys2Proof.Machine.execFinePayCommit s
  | .borrowerAddCommit => Sys2Proof.Machine.execBorrowerAddCommit s
  | .itemFlagSetCommit => Sys2Proof.Machine.execItemFlagSetCommit s
  | .borrowerQueryEnd => Sys2Proof.Machine.execBorrowerQueryEnd s
  | .loansListEnd => Sys2Proof.Machine.execLoansListEnd s
  | .policyLoadCommit => Sys2Proof.Machine.execPolicyLoadCommit s
  | .borrowerLoadStep => Sys2Proof.Machine.execBorrowerLoadStep s
  | .itemFlagsLoadStep => Sys2Proof.Machine.execItemFlagsLoadStep s
  | .markAllStep => Sys2Proof.Machine.execMarkAllStep s
  | .purgeMarkedStep => Sys2Proof.Machine.execPurgeMarkedStep s
  | .tableClearStep => Sys2Proof.Machine.execTableClearStep s
  | .tableRebuildStep => Sys2Proof.Machine.execTableRebuildStep s
  | .loanLoadStep => Sys2Proof.Machine.execLoanLoadStep s
  | .sweepBatch => Sys2Proof.Machine.execSweepBatch s
  | .scrubStep => Sys2Proof.Machine.execScrubStep s
  | .rollover => Sys2Proof.Machine.execRollover s
  | .openingEvent => Sys2Proof.Machine.execOpeningEvent s
  | .closingEvent => Sys2Proof.Machine.execClosingEvent s
  | .drainTimerExpiry => Sys2Proof.Machine.execDrainTimerExpiry s
  | .busyRelease d => Sys2Proof.Machine.execBusyRelease d s
  | .waitTimerExpiry d => Sys2Proof.Machine.execWaitTimerExpiry d s
  | .gapEnd d => Sys2Proof.Machine.execGapEnd d s
  | .paperOutAssert d => Sys2Proof.Machine.execPaperOutAssert d s
  | .paperOutRelease d => Sys2Proof.Machine.execPaperOutRelease d s
  | .supplyFail commitBegun => Sys2Proof.Machine.execSupplyFail commitBegun s
  | .resetAssert commitBegun => Sys2Proof.Machine.execResetAssert commitBegun s
  | .batteryBelowHold => Sys2Proof.Machine.execBatteryBelowHold s
  | .supplyValid => Sys2Proof.Machine.execSupplyValid s
  | .resetRelease => Sys2Proof.Machine.execResetRelease s
  | .startupIntact batteryBelow => Sys2Proof.Machine.execStartupIntact batteryBelow s
  | .startupLost batteryBelow => Sys2Proof.Machine.execStartupLost batteryBelow s
  | .batterySample batteryBelow => Sys2Proof.Machine.execBatterySample batteryBelow s

end Sys2Proof.Machine
end

