-- ==== Sys2Proof/Machine/Tick.lean ====
section
/-! DEFINITION. The passing of one millisecond, which is what a step does on an empty queue (log 2). The part's timers
count, the clock counts its seconds (R50), and a timer that runs out, or an event that the time of day reaches (R51,
R56), is placed in the queue as its command. A battery-sampling timer that has run out waits for BATTERY_SAMPLE, which
carries the battery's reading (log 21). In STARTING a millisecond makes the start-up's next comparison (R153; log 38). -/

namespace Sys2Proof.Machine

/-- A running timer one unit later; one that has run out stays at its last unit until its command stops it. -/
def countDown (t : Option Nat) : Option Nat := t.map fun n => if n ≤ 1 then n else n - 1

/-- A running timer runs out at this unit. -/
def runsOut : Option Nat → Bool
  | some n => n ≤ 1
  | none => false

/-- A desk one millisecond later: the double-scan, wait and gap timers (R10, R113, R115). -/
def DeskSide.millisecond (x : DeskSide) : DeskSide :=
  { x with
    wand := { x.wand with doubleScan := satAdd x.wand.doubleScan 1 }
    spooler :=
      { x.spooler with waitTimer := countDown x.spooler.waitTimer, gapTimer := countDown x.spooler.gapTimer } }

/-- A desk one second later: the hold, idle and gather timers (R12, R20, R108). -/
def DeskSide.second (x : DeskSide) : DeskSide :=
  { x with
    wand := { x.wand with hold := countDown x.wand.hold }
    ctx := { x.ctx with idle := countDown x.ctx.idle, gather := countDown x.ctx.gather } }

/-- This millisecond ends a second of the time of day. -/
def Clock.secondEnds (c : Clock) : Bool := 999 ≤ c.fraction

/-- This millisecond ends a second of the second timers (R50). -/
def Clock.phaseEnds (c : Clock) : Bool := 999 ≤ c.phase

/-- The clock one millisecond later (R50). A time of day of 86,399 waits for the rollover (R51). -/
def Clock.millisecond (c : Clock) : Clock :=
  { c with
    fraction := if c.secondEnds then 0 else c.fraction + 1
    phase := if c.phaseEnds then 0 else c.phase + 1
    time := if c.secondEnds && c.time < lastSecond then c.time + 1 else c.time }

/-- The millisecond timers that run out at a desk. -/
def deskMillisecondCommands (d : Desk) (x : DeskSide) : List Instr :=
  (if runsOut x.spooler.waitTimer then [.waitTimerExpiry d] else [])
    ++ (if runsOut x.spooler.gapTimer then [.gapEnd d] else [])

/-- The second timers that run out at a desk. -/
def deskSecondCommands (d : Desk) (x : DeskSide) : List Instr :=
  (if runsOut x.wand.hold then [.holdTimerExpiry d] else [])
    ++ (if runsOut x.ctx.idle then [.idleTimerExpiry d] else [])
    ++ (if runsOut x.ctx.gather then [.gatherTimerExpiry d] else [])

/-- The events of the time of day after a second of it (R51, R56). -/
def State.clockCommands (s : State) : List Instr :=
  if lastSecond ≤ s.clock.time then [.rollover]
  else if s.clock.dateUnset || s.control.part == .retaining then []
  else
    (if s.clock.time + 1 = s.policy.data.desks.opening then [.openingEvent] else [])
      ++ (if s.clock.time + 1 = s.policy.data.desks.closing then [.closingEvent] else [])

/-- The commands one millisecond places (log 2). The manual gives no order among events due in the same millisecond: the
events of the time of day stand first, then each desk's hold, idle and gather timers (Console before Kiosk), the drain
timer, and each desk's wait and gap timers (log 41). -/
def State.tickCommands (s : State) : List Instr :=
  (if s.clock.secondEnds then s.clockCommands else [])
    ++ (if s.clock.phaseEnds then
          deskSecondCommands .console s.console ++ deskSecondCommands .kiosk s.kiosk
            ++ (if runsOut s.control.drainTimer then [.drainTimerExpiry] else [])
        else [])
    ++ deskMillisecondCommands .console s.console ++ deskMillisecondCommands .kiosk s.kiosk

/-- The second timers one second later: the desks', the drain timer and the battery-sampling timer. -/
def State.secondTimers (s : State) : State :=
  { s with
    console := s.console.second
    kiosk := s.kiosk.second
    control :=
      { s.control with
        drainTimer := countDown s.control.drainTimer, batteryTimer := countDown s.control.batteryTimer } }

/-- The timers and the clock one millisecond later, and what falls due in the queue (log 2). -/
def State.timersTick (s : State) : State :=
  let s1 := if s.clock.phaseEnds then s.secondTimers else s
  { s1 with
    clock := s.clock.millisecond
    console := s1.console.millisecond
    kiosk := s1.kiosk.millisecond
    pending := s.pending ++ s.tickCommands }

/-- One millisecond (log 2). In STARTING with the latch set it makes the start-up's next comparison (log 38). -/
def State.tick (s : State) : State := s.timersTick.compareNext

end Sys2Proof.Machine
end

