-- ==== Sys2Proof/Safety.lean ====
section
/-! DEFINITION. What counts as a lawful state, in the terms the claims use: the laws the spec states for the tables, the
money, the journal, the desks, the ports and the engine. Nothing here says how a step works. -/

namespace Sys2Proof.Machine

/-! ## Progress -/

/-- A step of the part answers a next state: it neither faults nor refuses. -/
def State.canStep (s : State) : Prop := ∃ t, step s = .next t

/-! ## Tables -/

/-- A keyed table as R31, R43 and R44 keep it: its occupied slots ascend, each record stands with its own check, and the
table sum is the sum of the stored checks. -/
structure Table.Lawful {ρ : Type} (t : Table ρ) (check : ρ → Check) : Prop where
  slots : t.entries.Pairwise fun a b => a.slot < b.slot
  checks : ∀ e ∈ t.entries, e.check = check e.rcd
  sum : t.sum = storedSum t.entries

/-- The three maps and the policy as R31, R43, R44 and R48 keep them. -/
structure State.TablesLawful (s : State) : Prop where
  borrowers : s.borrowers.Lawful borrowerCheck
  loans : s.loans.Lawful loanCheck
  items : s.items.Lawful exceptionCheck
  policyChecks : s.policy.checks = sectionChecks s.policy.data
  policySum : s.policy.sum = sectionSum s.policy.checks

/-- A table is a map of bounded size (R30): no two records share a key, and every slot lies below the capacity. -/
structure Table.IsMap {ρ : Type} (t : Table ρ) (key : ρ → Nat) (capacity : Nat) : Prop where
  keys : t.entries.Pairwise fun a b => key a.rcd ≠ key b.rcd
  bounded : ∀ e ∈ t.entries, e.slot < capacity

/-- The three tables are maps (R30). -/
structure State.TablesAreMaps (s : State) : Prop where
  borrowers : s.borrowers.IsMap BorrowerRecord.number borrowerCapacity
  loans : s.loans.IsMap LoanRecord.item loanCapacity
  items : s.items.IsMap ExceptionRecord.item itemCapacity

/-- What the grant of an operation found still holds, so that its commit inserts no second record under a key and none
past the capacity (R66, R70, R82, R83): the plan of a CHECKOUT, the absent borrower of a BORROWER_ADD, the room of an
ITEM_FLAG_SET. -/
def State.grantStands (s : State) (plan : Plan) : EngineOp → Prop
  | .checkout _ _ _ =>
    match plan with
    | .checkout c =>
      c.isImplicit = (s.loan? c.item).isSome ∧ (c.isImplicit = false → s.loanSlotFree = true)
    | .renew _ => True
    | .plain => True
  | .borrowerAdd borrower _ => s.borrower? borrower = none ∧ s.borrowerSlotFree = true
  | .itemFlagSet item _ set => s.exception? item = none → set = true → s.exceptionSlotFree = true
  | .returnItem _ => True
  | .renew _ _ _ => True
  | .borrowerQuery _ => True
  | .loansList _ _ => True
  | .finePay _ _ => True
  | .policyLoad _ => True
  | .borrowerLoad _ _ => True
  | .itemFlagsLoad _ _ => True
  | .loanLoad _ _ => True
  | .markAll _ _ => True
  | .purgeMarked _ _ _ => True
  | .clearLoans _ _ _ _ => True
  | .clearItems _ _ => True
  | .rebuildBorrowers _ _ _ _ _ => True

/-- The grant of whatever a port is being served still stands. -/
def State.GrantLawful (s : State) : Prop := ∀ v p op, s.served = some (v, p, op) → s.grantStands v.plan op

/-- The loan lists as R39 keeps them: one list for each borrower number that holds loans, in ascending number; each holds
every loan naming its number, once, by due day ascending. -/
structure State.LoanListsLawful (s : State) : Prop where
  owners : s.loanLists.Pairwise fun a b => a.1 < b.1
  filled : ∀ l ∈ s.loanLists, l.2 ≠ []
  members : ∀ b i, i ∈ s.loanList b ↔ ∃ l, s.loan? i = some l ∧ l.borrower = b
  once : ∀ b, (s.loanList b).Nodup
  ordered : ∀ b, (s.loanList b).Pairwise fun i j => s.dueOf i ≤ s.dueOf j

/-- Every fine balance lies in 0 to 999,999 (R35). -/
def State.BalancesLawful (s : State) : Prop := ∀ e ∈ s.borrowers.entries, e.rcd.fineBalance ≤ 999999

/-! ## The journal -/

/-- The journal as R123 keeps it: at most 3,072 entries, in consecutive ascending sequences from head to tail, with the
read cursor between head and tail; and at most four DATE_SET entries wait (R124). -/
structure Journal.Lawful (j : Journal) : Prop where
  held : j.entries.length = j.occupancy
  bounded : j.occupancy ≤ 3072
  cursor : j.delivered ≤ j.occupancy
  sequences : ∀ i, (h : i < j.entries.length) → j.entries[i].sequence = j.head + BitVec.ofNat 32 i
  waiting : j.waitingDates.length ≤ 4

/-- The most entries the commit of a granted operation appends (R86). -/
def commitEntries (plan : Plan) : EngineOp → Nat
  | .checkout _ _ _ =>
    match plan with
    | .checkout c => if c.isImplicit then 2 else 1
    | .renew _ => 0
    | .plain => 0
  | .returnItem _ => 1
  | .renew _ _ _ => 1
  | .finePay _ _ => 1
  | .borrowerAdd _ _ => 1
  | .itemFlagSet _ _ _ => 1
  | .borrowerQuery _ => 0
  | .loansList _ _ => 0
  | .policyLoad _ => 0
  | .borrowerLoad _ _ => 0
  | .itemFlagsLoad _ _ => 0
  | .loanLoad _ _ => 0
  | .markAll _ _ => 0
  | .purgeMarked _ _ _ => 0
  | .clearLoans _ _ _ _ => 0
  | .clearItems _ _ => 0
  | .rebuildBorrowers _ _ _ _ _ => 0

/-- The journal has room for the entries of the operation being served (R123). -/
def State.RoomLawful (s : State) : Prop :=
  ∀ v p op, s.served = some (v, p, op) → s.journal.occupancy + commitEntries v.plan op ≤ 3072

/-! ## Desks -/

/-- A desk as R24, R107 and R109 keep it: at most 8 labels in the scan queue, at most 16 slips in the spool, 1 to 7 lines
in an open slip; the gather timer runs exactly while lines wait (R108) and the idle timer exactly while a borrower is
bound (R20); the printer's two timers run exactly in WAITING and in GAP (R113, R115), and PRINTING lasts no longer than
the event that enters it (log 10); where the desks do not serve the wand and the printer are Off (R11, R119), and no
label is queued and no borrower bound (R23, R29). -/
structure DeskSide.Lawful (x : DeskSide) (serves : Bool) : Prop where
  queue : x.ctx.queue.length ≤ 8
  spool : x.spooler.spool.length ≤ 16
  lines : ∀ o, x.ctx.openSlip = some o → 1 ≤ o.lines.length ∧ o.lines.length ≤ 7
  gather : x.ctx.gather.isSome = x.ctx.openSlip.isSome
  idle : x.ctx.idle.isSome = x.ctx.bound.isSome
  waitTimer : x.spooler.waitTimer.isSome = (x.spooler.state == .waiting)
  gapTimer : x.spooler.gapTimer.isSome = (x.spooler.state == .gap)
  printing : x.spooler.state ≠ .printing
  off : x.spooler.state = .off ↔ serves = false
  wandOff : serves = false → x.wand.state = .off
  emptied : serves = false → x.ctx.queue = [] ∧ x.ctx.bound = none

/-- Both desks are lawful; while a desk's auto-bind is ON its scan queue holds no BORROWER label (R24, R27); and nobody is
bound outside OPEN, CLOSING among the rest (R23). -/
structure State.DesksLawful (s : State) : Prop where
  desks : ∀ d, (s.desk d).Lawful s.control.part.desksServe
  labels : ∀ d, (s.terms d).autoBind = true → ∀ r ∈ (s.desk d).ctx.queue, r.kind = .item
  unbound : ∀ d, s.control.part ≠ .open → (s.desk d).ctx.bound = none

/-- Neither the end of the closing drain nor the passage to NIGHT is due: each happens at the event that makes it due
(R118, R150). -/
structure State.Settled (s : State) : Prop where
  drain : s.control.part = .closing → s.control.drainEnded = false →
    ¬(s.deskDrained .console = true ∧ s.deskDrained .kiosk = true)
  night : s.control.part = .closing → s.control.drainEnded = true → s.deskRequest = true

/-! ## Ports -/

/-- A port as R160, R161 and R164 keep it: at most 8 notices; in its output queue at most 4 answers and at most one
reply; and a reply waiting to leave is that of the request in flight, which the engine has done with. -/
structure PortState.Lawful (q : PortState) : Prop where
  notices : q.notices.length ≤ 8
  answers : (q.outQ.filter fun f => !f.isReply).length ≤ 4
  replies : (q.outQ.filter (·.isReply)).length ≤ 1
  flight : (∃ f ∈ q.outQ, f.isReply = true) → ∃ fl, q.inFlight = some fl ∧ fl.op = none

/-- The three ports are lawful. -/
def State.PortsLawful (s : State) : Prop := ∀ p, (s.port p).Lawful

/-! ## The engine -/

/-- The operations that are bursts (R92). -/
def burst : EngineOp → Bool
  | .borrowerLoad _ _ => true
  | .itemFlagsLoad _ _ => true
  | .loanLoad _ _ => true
  | .markAll _ _ => true
  | .purgeMarked _ _ _ => true
  | .clearLoans _ _ _ _ => true
  | .clearItems _ _ => true
  | .rebuildBorrowers _ _ _ _ _ => true
  | .checkout _ _ _ => false
  | .returnItem _ => false
  | .renew _ _ _ => false
  | .borrowerQuery _ => false
  | .loansList _ _ => false
  | .finePay _ _ => false
  | .borrowerAdd _ _ => false
  | .itemFlagSet _ _ _ => false
  | .policyLoad _ => false

/-- A requester is being served. -/
def State.serves (s : State) (r : Requester) : Bool := s.engine.serving.any fun v => v.who == r

/-- The engine as R89 to R93 keep it. What is served waits for nothing, holds no yield set and stands in none. Whoever
stands in a yield set waits, and the yield sets hold no circle, so that a waiting requester is eligible wherever one
waits. A port waits or is served exactly while its request in flight has work for the engine, and waits again after a
grant only in a burst. The sweep waits exactly in REQUESTING and is served exactly in SERVED. While the part runs the
engine is never FREE between commands and the Scrubber waits or is served; in STARTING and RETAINING nothing waits and
nothing is served. -/
structure State.EngineLawful (s : State) : Prop where
  servedAlone : ∀ v, s.engine.serving = some v →
    s.engine.waiting.get v.who = false ∧ ∀ r, (s.engine.yields.get v.who).get r = false ∧
      (s.engine.yields.get r).get v.who = false
  yieldsWait : ∀ r y, (s.engine.yields.get r).get y = true → s.engine.waiting.get y = true
  noCircle : ∃ rank : Requester → Nat, ∀ r y, (s.engine.yields.get r).get y = true → rank y < rank r
  portsWork : ∀ p, (s.portOp p).isSome = (s.engine.waiting.get (portRequester p) || s.serves (portRequester p))
  waitsAgain : ∀ p fl op, (s.port p).inFlight = some fl → fl.op = some op → fl.started = true →
    s.engine.waiting.get (portRequester p) = true → burst op = true
  sweepWaits : s.engine.waiting.sweep = (s.sweep.state == .requesting)
  sweepServed : s.serves .sweep = (s.sweep.state == .served)
  running : s.control.part.running = s.engine.serving.isSome
  scrubber : s.control.part.running = true → (s.engine.waiting.scrubber || s.serves .scrubber) = true
  resting : s.control.part.running = false → ∀ r, s.engine.waiting.get r = false

/-! ## The clock and the desk hours -/

/-- The clock within its ranges, and day 0 while the date is unset (R50, R52). -/
structure State.ClockLawful (s : State) : Prop where
  today : s.clock.today ≤ 65535
  time : s.clock.time ≤ 86399
  unset : s.clock.dateUnset = true → s.clock.today = 0

/-- The operations of a desk that create, renew or remove a loan (R68). -/
def deskLoan : EngineOp → Bool
  | .checkout _ _ _ => true
  | .returnItem _ => true
  | .renew _ _ _ => true
  | .borrowerQuery _ => false
  | .loansList _ _ => false
  | .finePay _ _ => false
  | .borrowerAdd _ _ => false
  | .itemFlagSet _ _ _ => false
  | .policyLoad _ => false
  | .borrowerLoad _ _ => false
  | .itemFlagsLoad _ _ => false
  | .loanLoad _ _ => false
  | .markAll _ _ => false
  | .purgeMarked _ _ _ => false
  | .clearLoans _ _ _ _ => false
  | .clearItems _ _ => false
  | .rebuildBorrowers _ _ _ _ _ => false

/-- A CHECKOUT, RETURN or RENEW is served only in OPEN and CLOSING, and never for the Uplink port (R68, R162); a burst is
the Uplink port's alone (R162). -/
structure State.DeskLoansLawful (s : State) : Prop where
  hours : ∀ v p op, s.served = some (v, p, op) → deskLoan op = true → s.control.part.desksServe = true
  uplink : ∀ op, s.portOp .uplink = some op → deskLoan op = false
  bursts : ∀ p op, s.portOp p = some op → burst op = true → p = .uplink

/-! ## The records -/

/-- The records as R34, R35, R37, R38 and R144 keep them: charged_through between the due day and the greater of it and
today, fine_accrued within 0 to 65,535, a loan counted overdue due before today, no empty exception entry, and every policy
value within its range. The operation day sampled for what is being served is not after today (R94), the caps of the policy
sampled with it lie within 0 to 65,535 (R60), and so do the fines of the LOAN_LOAD records still to be applied (R143). -/
structure State.RecordsLawful (s : State) : Prop where
  charged : ∀ e ∈ s.loans.entries,
    e.rcd.dueDay ≤ e.rcd.chargedThrough ∧ e.rcd.chargedThrough ≤ max e.rcd.dueDay s.clock.today
  overdue : ∀ e ∈ s.loans.entries, e.rcd.countedOverdue = true → e.rcd.dueDay < s.clock.today
  exceptions : ∀ e ∈ s.items.entries, e.rcd.isEmpty = false
  policy : ∀ k, clampContents (s.policy.data.contents k) = s.policy.data.contents k
  sampled : ∀ v, s.engine.serving = some v → v.day ≤ s.clock.today
  accrued : ∀ e ∈ s.loans.entries, e.rcd.fineAccrued ≤ 65535
  caps : ∀ v, s.engine.serving = some v → ∀ c ∈ v.policy.classTerms, c.cap ≤ 65535
  loading : ∀ p fl todo done, (s.port p).inFlight = some fl → fl.op = some (.loanLoad todo done) →
    ∀ r ∈ todo, r.fineAccrued ≤ 65535

/-- A borrower's counts agree with its loan list (R36, R37). -/
def State.Counted (s : State) (r : BorrowerRecord) : Prop :=
  r.loanCount = (s.loanList r.number).length ∧ r.overdueLoans = s.overdueInList r.number

/-- The counts as R36, R37 and R39 keep them. No list holds more than 255 loans. While the borrower and loan maps are SOUND,
every loan's borrower is present and every borrower's counts agree with its list. The other clauses say what the work in
progress has reached: a CHECKOUT being served was granted with both maps SOUND, its borrower present and below 255 loans
(R68, R69); a burst being served was granted its first step; a TABLE_CLEAR LOANS (R140) or TABLE_REBUILD (R142) past its
first grant holds its map SUSPECT, and has emptied, placed and counted as far as its phase and cursor say. -/
structure State.CountsLawful (s : State) : Prop where
  bounded : ∀ b, (s.loanList b).length ≤ 255
  present : s.borrowers.health = .sound → s.loans.health = .sound →
    ∀ e ∈ s.loans.entries, (s.borrower? e.rcd.borrower).isSome = true
  counts : s.borrowers.health = .sound → s.loans.health = .sound → ∀ e ∈ s.borrowers.entries, s.Counted e.rcd
  started : ∀ p fl, (s.port p).inFlight = some fl → fl.op.isSome = true → s.serves (portRequester p) = true →
    fl.started = true
  granted : ∀ v p b i o c, s.served = some (v, p, .checkout b i o) → v.plan = .checkout c →
    s.borrowers.health = .sound ∧ s.loans.health = .sound ∧ (s.borrower? c.borrower).isSome = true ∧
    (s.loanList c.borrower).length < 255
  clearing : ∀ p fl phase cursor removed corrected, (s.port p).inFlight = some fl →
    fl.op = some (.clearLoans phase cursor removed corrected) →
    (fl.started = false → phase = 1) ∧
    (fl.started = true → s.loans.health = .suspect ∧
      (phase ≠ 1 → s.loans.entries = [] ∧
        ∀ e ∈ s.borrowers.entries, e.slot < cursor → e.rcd.loanCount = 0 ∧ e.rcd.overdueLoans = 0))
  rebuilding : ∀ p fl phase cursor removed inserted unplaced, (s.port p).inFlight = some fl →
    fl.op = some (.rebuildBorrowers phase cursor removed inserted unplaced) →
    (fl.started = false → phase = 1) ∧
    (fl.started = true → s.borrowers.health = .suspect ∧
      (phase = 2 → unplaced = 0 →
        ∀ e ∈ s.loans.entries, e.slot < cursor → (s.borrower? e.rcd.borrower).isSome = true) ∧
      (phase ≠ 1 → phase ≠ 2 → unplaced = 0 →
        (∀ e ∈ s.loans.entries, (s.borrower? e.rcd.borrower).isSome = true) ∧
        ∀ e ∈ s.borrowers.entries, e.slot < cursor → s.Counted e.rcd))

/-! ## Printed labels -/

/-- The wide elements of a character, position 1 first, by the pattern table of R1. -/
def widePositions : Symbol → List Bool
  | .digit 1 => [true, true, false, false, false]
  | .digit 2 => [true, false, true, false, false]
  | .digit 3 => [true, false, false, true, false]
  | .digit 4 => [true, false, false, false, true]
  | .digit 5 => [false, true, true, false, false]
  | .digit 6 => [false, true, false, true, false]
  | .digit 7 => [false, true, false, false, true]
  | .digit 8 => [false, false, true, true, false]
  | .digit 9 => [false, false, true, false, true]
  | .digit _ => [false, false, false, true, true]
  | .kindB => [false, true, false, false, false]
  | .kindI => [false, false, false, true, false]
  | .start => [true, true, false, true, false]
  | .stop => [true, false, false, true, true]
  | .reverseStop => [true, true, false, false, true]
  | .reverseStart => [false, true, false, true, true]

/-- The widths of a printed character. -/
def printedSymbol (n w : Nat) (c : Symbol) : List Nat := (widePositions c).map fun wide => if wide then w else n

/-- The characters of a label: START, the kind, the ten digits, the check digit, STOP (R1, R8). -/
def labelSymbols (kind : LabelKind) (ds : List Nat) : List Symbol :=
  [.start, if kind = .borrower then .kindB else .kindI] ++ ds.map .digit ++ [.digit (checkValue ds), .stop]

/-- The 83 element widths of a printed label: its characters with one gap between each two (R1). -/
def printedLabel (kind : LabelKind) (ds : List Nat) (n w g : Nat) : List Nat :=
  ((labelSymbols kind ds).map (printedSymbol n w)).intersperse [g] |>.flatten

/-! ## Policy contents -/

/-- The contents of a section have the number of entries the policy keeps, and numbers within their fields: 128 cells,
16 classes, 8 categories, at most 16 ranges of item numbers (R41, R60, R145). -/
def SectionContents.wellSized : SectionContents → Bool
  | .matrix cells => cells.length == 128
  | .classTerms ts => ts.length == 16
  | .categoryTerms ts => ts.length == 8
  | .deskTerms _ => true
  | .calendar _ => true
  | .classRanges rs => rs.length ≤ 16 && rs.all fun r => r.low ≤ 9999999999 && r.high ≤ 9999999999

/-- Every number of a desk's terms within the bytes R168 gives it, whether or not within its range. -/
def DeskTerms.fits (t : DeskTerms) : Bool :=
  t.doubleScan < 65536 && t.idleTime < 65536 && t.defaultClass < 256 && t.gatherTime < 256 && t.waitLimit < 256 &&
    t.branchName.length < 256

/-- Every number of a section's contents within the bytes R168 gives it, whether or not within its range (R144). -/
def SectionContents.fits : SectionContents → Bool
  | .matrix cells => cells.all fun c => c.period < 65536 && c.renewalLimit < 256
  | .classTerms ts => ts.all fun t => t.grace < 256 && t.rate < 65536 && t.cap < 65536
  | .categoryTerms ts => ts.all fun t =>
      t.loanLimit < 256 && t.fineLimit < 4294967296 && t.overdueBlock < 65536 && t.provisionalDays < 256
  | .deskTerms d => d.console.fits && d.kiosk.fits && d.opening < 4294967296 && d.closing < 4294967296 &&
      d.levelConsole < 256 && d.levelKiosk < 256 && d.levelSweep < 256 && d.levelUplink < 256
  | .calendar c => c.year < 65536 && c.month < 256 && c.day < 256 && c.weekday0 < 256 && c.base < 65536
  | .classRanges rs => rs.all fun r => r.itemClass < 256

/-! ## Terms of the claims -/

/-- The command that is the arrival of a request frame (R161, R162). -/
def requestCommand (code : ReqCode) (p : Port) (tag : Byte) (payload : List Byte) : Instr :=
  match code with
  | .scanTake => .scanTake p tag payload
  | .checkout => .checkout p tag payload
  | .returnItem => .returnItem p tag payload
  | .renew => .renew p tag payload
  | .borrowerQuery => .borrowerQuery p tag payload
  | .loansList => .loansList p tag payload
  | .slipCut => .slipCut p tag payload
  | .printerResume => .printerResume p tag payload
  | .unbind => .unbind p tag payload
  | .noticeTake => .noticeTake p tag payload
  | .status => .status p tag payload
  | .finePay => .finePay p tag payload
  | .borrowerAdd => .borrowerAdd p tag payload
  | .itemFlagSet => .itemFlagSet p tag payload
  | .policyLoad => .policyLoad p tag payload
  | .dateSet => .dateSet p tag payload
  | .deskOpen => .deskOpen p tag payload
  | .deskClose => .deskClose p tag payload
  | .journalArm => .journalArm p tag payload
  | .journalFetch => .journalFetch p tag payload
  | .journalRelease => .journalRelease p tag payload
  | .journalRewind => .journalRewind p tag payload
  | .borrowerLoad => .borrowerLoad p tag payload
  | .itemFlagsLoad => .itemFlagsLoad p tag payload
  | .markAll => .markAll p tag payload
  | .purgeMarked => .purgeMarked p tag payload
  | .tableClear => .tableClear p tag payload
  | .tableRebuild => .tableRebuild p tag payload
  | .loanLoad => .loanLoad p tag payload
  | .nightEnter => .nightEnter p tag payload
  | .nightLeave => .nightLeave p tag payload

/-- The command that is the commit, the step or the end of an operation at the engine (R66, R92). -/
def EngineOp.commitCommand : EngineOp → Instr
  | .checkout _ _ _ => .checkoutCommit
  | .returnItem _ => .returnCommit
  | .renew _ _ _ => .renewCommit
  | .finePay _ _ => .finePayCommit
  | .borrowerAdd _ _ => .borrowerAddCommit
  | .itemFlagSet _ _ _ => .itemFlagSetCommit
  | .borrowerQuery _ => .borrowerQueryEnd
  | .loansList _ _ => .loansListEnd
  | .policyLoad _ => .policyLoadCommit
  | .borrowerLoad _ _ => .borrowerLoadStep
  | .itemFlagsLoad _ _ => .itemFlagsLoadStep
  | .loanLoad _ _ => .loanLoadStep
  | .markAll _ _ => .markAllStep
  | .purgeMarked _ _ _ => .purgeMarkedStep
  | .clearLoans _ _ _ _ => .tableClearStep
  | .clearItems _ _ => .tableClearStep
  | .rebuildBorrowers _ _ _ _ _ => .tableRebuildStep

/-- A port that can take a request now: none is in flight, and the part is in OPEN, CLOSING or NIGHT (R161). -/
def State.takes (s : State) (p : Port) : Prop := (s.port p).inFlight = none ∧ s.control.part.running = true

/-- The state with an answer sent at once on a port (R159 to R161): the receiver in HUNT, and the answer behind the
frames waiting to leave, or discarded where 4 answers wait. -/
def State.withAnswer (s : State) (p : Port) (tag request : Byte) (code : ReplyCode) : State :=
  s.modPort p fun q =>
    { q with
      rx := .hunt
      outQ :=
        if (q.outQ.filter fun f => !f.isReply).length < 4 then
          q.outQ ++ [{ tag, code, request, flags := {}, results := [], isReply := false }]
        else q.outQ }

/-- The state with a request of a port carried out at its acceptance and its reply made ready (R160, R161): the request
stays in flight until the reply has left. -/
def State.withReply (s : State) (p : Port) (tag : Byte) (request : ReqCode) (code : ReplyCode) (flags : ReplyFlags)
    (results : List Field) : State :=
  s.modPort p fun q =>
    { q with
      rx := .hunt
      inFlight := some { tag, code := request, op := none, started := false, label := none, discard := false }
      outQ := q.outQ ++ [{ tag, code, request := request.byte, flags, results, isReply := true }] }

/-- The state with a request of a port in flight and waiting at the engine (R66, R67, R90). `label` is the report of an
item resolved "from wand", kept for the reply (R25). -/
def State.withWaiting (s : State) (p : Port) (tag : Byte) (request : ReqCode) (op : EngineOp)
    (label : Option LabelReport) : State :=
  (s.modPort p fun q =>
    { q with
      rx := .hunt
      inFlight := some { tag, code := request, op := some op, started := false, label, discard := false }
    }).modEngine fun e => { e with waiting := e.waiting.set (portRequester p) true }

/-- The 5 bytes of an identifier name borrower `b` at a desk: its number, or "current" where `b` is bound (R25, R167). -/
def State.names (s : State) (d : Desk) (v b : Nat) : Prop :=
  (v = b ∧ b ≤ 9999999999) ∨ (v = 0xFFFFFFFFFF ∧ ∃ time, (s.desk d).ctx.bound = some { borrower := b, time })

/-- The state with the oldest label of a desk's queue taken (R25, R26). -/
def State.withoutOldest (s : State) (d : Desk) (r : LabelReport) (rest : List LabelReport) : State :=
  s.modDesk d fun x => { x with ctx := { x.ctx with queue := rest, lastTaken := some r } }

/-- The reply of the request a port had in flight stands last in its output queue, unless a break has cut it off
(R161, R163). -/
def State.repliesAfter (s t : State) (p : Port) (code : ReplyCode) (flags : ReplyFlags) (results : List Field) : Prop :=
  ∀ fl, (s.port p).inFlight = some fl → fl.discard = false →
    (t.port p).outQ =
      (s.port p).outQ ++
        [{ tag := fl.tag
           code
           request := fl.code.byte
           flags
           results := results ++ labelField fl.label
           isReply := true }]

/-- The journal after a commit that appends entries of the given fields at its tail (R123). -/
def Journal.after (j : Journal) (ds : List EntryDraft) : Journal := ds.foldl Journal.append j

/-- What every state that the engine's own moves lead to shares with the state before them: every record of every table
with its sum, the loan lists, the policy, the clock and the queue. -/
structure SameTables (s t : State) : Prop where
  clock : t.clock = s.clock
  policy : t.policy = s.policy
  borrowers : t.borrowers.entries = s.borrowers.entries ∧ t.borrowers.sum = s.borrowers.sum
  loans : t.loans.entries = s.loans.entries ∧ t.loans.sum = s.loans.sum
  loanLists : t.loanLists = s.loanLists
  items : t.items.entries = s.items.entries ∧ t.items.sum = s.items.sum
  pending : t.pending = s.pending

/-- What a change of health leaves: every record of every table with its sum, the loan lists, the policy's sections with
their checks and sum. -/
structure SameRecords (s t : State) : Prop where
  policy : t.policy.data = s.policy.data ∧ t.policy.checks = s.policy.checks ∧ t.policy.sum = s.policy.sum
  borrowers : t.borrowers.entries = s.borrowers.entries ∧ t.borrowers.sum = s.borrowers.sum
  loans : t.loans.entries = s.loans.entries ∧ t.loans.sum = s.loans.sum
  loanLists : t.loanLists = s.loanLists
  items : t.items.entries = s.items.entries ∧ t.items.sum = s.items.sum

/-- Everything but the desks, the ports and the counters kept for the ports: the controller, the clock, the policy, the
three tables with the loan lists, the engine, the sweep, the Scrubber, the journal and the queue. -/
def State.sameInner (s t : State) : Prop :=
  t.control = s.control ∧ t.clock = s.clock ∧ t.policy = s.policy ∧ t.borrowers = s.borrowers ∧ t.loans = s.loans ∧
    t.loanLists = s.loanLists ∧ t.items = s.items ∧ t.engine = s.engine ∧ t.sweep = s.sweep ∧ t.scrub = s.scrub ∧
    t.journal = s.journal ∧ t.pending = s.pending

/-- What a re-evaluation of the wand state does to the wand (R4, R11, R13): a wand that leaves Active abandons its scan, one
that enters Active takes the line's level with its framing in QUIET_WAIT, and any other keeps its scan; the last accepted
label and the double-scan timer stay. -/
def Wand.Follows (w w' : Wand) (line : LineLevel) : Prop :=
  w' =
    if (w.state = .active ↔ w'.state = .active) then { w with state := w'.state, hold := w'.hold }
    else
      { w with
        state := w'.state
        hold := w'.hold
        phase := .quietWait
        elements := []
        count := 0
        line := if w'.state = .active then line else w.line }

/-- What was placed in a port's notice queue from one state to the other: these notices in this order, each appended, or
lost at a full queue with the overflow flag set (R164). -/
def State.PlacesAfter (s t : State) (p : Port) (ns : List Notice) : Prop :=
  (t.port p).notices = (ns.foldl PortState.place (s.port p)).notices ∧
    (t.port p).overflow = (ns.foldl PortState.place (s.port p)).overflow

/-- The slips that a cut of a desk's open slip loses: 1 at a spool of 16 slips (R106, R109). -/
def State.cutLosses (s : State) (d : Desk) : Nat :=
  if (s.desk d).ctx.openSlip.isSome = true ∧ 16 ≤ (s.desk d).spooler.spool.length then 1 else 0

/-- The slips that stand in a desk's spool once its open slip has been cut (R106, R109). -/
def State.spooledAfterCut (s : State) (d : Desk) : Nat :=
  if (s.desk d).ctx.openSlip.isSome = true ∧ (s.desk d).spooler.spool.length < 16 then
    (s.desk d).spooler.spool.length + 1
  else (s.desk d).spooler.spool.length

/-- The notices of a cut of a desk's open slip: SLIP_LOST at a spool of 16 slips (R106, R109). -/
def State.cutNotices (s : State) (d : Desk) : List Notice :=
  match (s.desk d).ctx.openSlip with
  | some o => if 16 ≤ (s.desk d).spooler.spool.length then [.slipLost .spoolFull 1 (some .loan) (some o.borrower)] else []
  | none => []

/-- The notice of an unbind: BORROWER_UNBOUND where a borrower is bound (R19). -/
def State.unbindNotices (s : State) (d : Desk) (cause : UnbindCause) : List Notice :=
  match (s.desk d).ctx.bound with
  | some b => [.borrowerUnbound b.borrower cause]
  | none => []

/-- The notice of `n` slips discarded from a spool, none where there is none to discard (R118, R119). -/
def discardNotices (cause : LostCause) (n : Nat) : List Notice := if n = 0 then [] else [.slipLost cause n none none]

/-- The notices of a desk's own port, and none at the Uplink port. -/
def deskNotices (p : Port) (f : Desk → List Notice) : List Notice :=
  match portDesk p with
  | some d => f d
  | none => []

/-- JOURNAL_LEVEL at the Console and Uplink ports, where an event has changed the journal's level (R125). -/
def levelNotices (p : Port) (before after : Nat) : List Notice :=
  if p = .kiosk ∨ levelOf after = levelOf before then [] else [.journalLevel (levelOf after) after]

/-- A copy of a lost-slip counter after `n` slips are lost: it saturates at 65,535 (R109). -/
def lostAfter (x n : Nat) : Nat := if n = 0 then x else min (x + n) 65535

/-- The counters kept for the ports after slips are lost at the desks: one copy for the Console desk's spooler, two for the
Kiosk desk's (R109, R120). -/
def Shares.lose (x : Shares) (n : Desk → Nat) : Shares :=
  { x with
    lostAConsole := lostAfter x.lostAConsole (n .console)
    lostBKiosk := lostAfter x.lostBKiosk (n .kiosk)
    lostBConsole := lostAfter x.lostBConsole (n .kiosk) }

/-- What an entry to OPEN does to the desks and places (R11, R13, R117, R119, R148): the wands by R11's table, the printers in
IDLE, or in NO_PAPER with its notice, then PART_STATE. -/
structure State.OpensInto (s t : State) : Prop where
  wands : ∀ d, (s.desk d).wand.Follows (t.desk d).wand (s.desk d).lines.wand ∧
    (t.desk d).wand.hold = (s.desk d).wand.hold ∧
    (t.desk d).wand.state =
      wandStateBy .open (s.terms d).wandMode (s.desk d).ctx.presence (s.desk d).wand.hold.isSome
  printers : ∀ d, (t.desk d).spooler.state = (if (s.desk d).lines.paperOut = true then .noPaper else .idle) ∧
    (t.desk d).spooler.spool = (s.desk d).spooler.spool
  notices : ∀ p, s.PlacesAfter t p
    (deskNotices p (fun d =>
        if (s.desk d).lines.paperOut = true then [.printerState .noPaper (s.desk d).spooler.spool.length] else []) ++
      [.partState .open])
  shares : t.shares = s.shares

/-- What both desks are after an entry to NIGHT: the wand Off with its hold timer stopped, nothing queued, bound or open,
the spool empty and the printer OFF (R11, R12, R23, R119). -/
def State.AllNight (s t : State) : Prop :=
  ∀ d, (s.desk d).wand.Follows (t.desk d).wand (s.desk d).lines.wand ∧ (t.desk d).wand.state = .off ∧
    (t.desk d).wand.hold = none ∧ (t.desk d).ctx.queue = [] ∧ (t.desk d).ctx.bound = none ∧
    (t.desk d).ctx.idle = none ∧ (t.desk d).ctx.lastTaken = none ∧ (t.desk d).ctx.openSlip = none ∧
    (t.desk d).ctx.gather = none ∧ (t.desk d).spooler.spool = [] ∧ (t.desk d).spooler.state = .off

/-- What an entry to CLOSING from OPEN does to the desks and places (R19, R23, R106, R109, R148, R150): both desks cut and
unbind, with the notices of the cut, BORROWER_UNBOUND with cause CLOSING, then PART_STATE; the wands and the scan queues
stay. A slip in a spool, an open slip or a printer that is not IDLE keeps the drain going on; with none of them the drain
ends at the entry, and a desk request alone keeps the part in CLOSING. Where nothing holds it, the entry to NIGHT follows
with its PART_STATE. -/
structure State.ClosesInto (s t : State) : Prop where
  parts : t.control.part = .closing ∨ t.control.part = .night
  drains : (∃ d, (s.desk d).spooler.spool ≠ [] ∨ (s.desk d).ctx.openSlip ≠ none ∨ (s.desk d).spooler.state ≠ .idle) →
    t.control = { s.control with part := .closing, drainTimer := some 60, drainEnded := false }
  drained : (∀ d, (s.desk d).spooler.spool = [] ∧ (s.desk d).ctx.openSlip = none ∧ (s.desk d).spooler.state = .idle) →
    t.control =
      if s.deskRequest = true then { s.control with part := .closing, drainTimer := some 60, drainEnded := true }
      else { s.control with part := .night, drainTimer := none, drainEnded := false, openingPending := false }
  staying : t.control.part = .closing → t.shares = s.shares.lose s.cutLosses ∧
    ∀ d, (t.desk d).wand = (s.desk d).wand ∧ (t.desk d).ctx.queue = (s.desk d).ctx.queue
  passing : t.control.part = .night → t.shares = s.shares ∧ s.AllNight t
  notices : ∀ p, s.PlacesAfter t p
    (deskNotices p (fun d => s.cutNotices d ++ s.unbindNotices d .closing) ++
      (if t.control.part = .night then [.partState .closing, .partState .night] else [.partState .closing]))

/-- A record of the table, or a section of the policy, is not what it was (R44). -/
def State.Changes (s t : State) : TableId → Prop
  | .borrowers => t.borrowers.entries ≠ s.borrowers.entries
  | .loans => t.loans.entries ≠ s.loans.entries
  | .items => t.items.entries ≠ s.items.entries
  | .policy => t.policy.data ≠ s.policy.data

end Sys2Proof.Machine
end

