-- ==== Sys2Proof/Certificates/Slice0/Obligations.lean ====
section
/-! DEFINITION. The statements for the provers. Each says in its docstring which rule of spec/ it formalises, and where a
clause rests on a choice of the model, which log entry says so. -/

open Sys2Proof Sys2Proof.Machine

/-! ## The machine -/

/-- A step with a command at the front of the queue is that command's effect on the state with the queue's rest. One queue
for the commands of every sender, each taken whole before the next, is how the model takes the manual's "events at the
block that owns the state concerned" (00_scope, "Time and order"; log 32). -/
def Obligations.StepRunsTheFrontCommand : Prop :=
  ∀ (c : Instr) (rest : List Instr) (s : State),
    step { s with pending := c :: rest } = exec c { s with pending := rest }

/-- The model's choice (log 2): on an empty queue one millisecond passes. The time of day moves where its second ends,
at fraction 999, and waits at 86,399 for the rollover (R50, R51); the double-scan timers count up (R10). The wait and
gap timers (R113, R115) count down at each millisecond, and the hold, idle, gather, drain and battery-sampling timers
(R12, R20, R108, R118, R155) where the second of the timers ends; a timer at its last unit stays there. The commands
that join the queue are the expiries of the timers at their last unit, the rollover, and the opening or closing event of
the time of day reached (R56), each once and no others: the battery's sample carries a reading and is sent (log 21). No
record, port, slip, binding or line changes, and no health but one: in STARTING with the latch set the millisecond makes
the start-up's next comparison (R153; log 38), and a table that disagrees with its sum becomes SUSPECT. -/
def Obligations.EmptyQueuePassesAMillisecond : Prop :=
  ∀ (down : Option Nat → Option Nat) (due : Option Nat → Prop) (made : TableId → Bool) (s : State), s.pending = [] →
    (down = fun timer => timer.map fun n => if n ≤ 1 then n else n - 1) →
    (due = fun timer => ∃ n, timer = some n ∧ n ≤ 1) →
    (made = fun tbl =>
      decide (s.control.part = .starting ∧ s.control.latch = true ∧
        [TableId.borrowers, .loans, .items, .policy][s.control.startUp.compared]? = some tbl ∧ s.agrees tbl = false ∧
        s.health tbl = .sound)) →
    ∃ t, step s = .next t ∧
      t.clock =
        { s.clock with
          fraction := if 999 ≤ s.clock.fraction then 0 else s.clock.fraction + 1
          phase := if 999 ≤ s.clock.phase then 0 else s.clock.phase + 1
          time := if 999 ≤ s.clock.fraction ∧ s.clock.time < 86399 then s.clock.time + 1 else s.clock.time } ∧
      t.control =
        { s.control with
          drainTimer := if 999 ≤ s.clock.phase then down s.control.drainTimer else s.control.drainTimer
          batteryTimer := if 999 ≤ s.clock.phase then down s.control.batteryTimer else s.control.batteryTimer
          startUp :=
            if s.control.part = .starting ∧ s.control.latch = true ∧ s.control.startUp.compared < 4 then
              { compared := s.control.startUp.compared + 1
                found := s.control.startUp.found ++ [TableId.borrowers, .loans, .items, .policy].filter made }
            else s.control.startUp } ∧
      t.policy =
        (if made .policy = true then
          { s.policy with health := .suspect, reloaded := ⟨false, false, false, false, false, false⟩ }
        else s.policy) ∧
      t.borrowers = { s.borrowers with health := if made .borrowers = true then .suspect else s.borrowers.health } ∧
      t.loans = { s.loans with health := if made .loans = true then .suspect else s.loans.health } ∧
      t.items = { s.items with health := if made .items = true then .suspect else s.items.health } ∧
      t.loanLists = s.loanLists ∧ t.engine = s.engine ∧ t.sweep = s.sweep ∧
      t.scrub = s.scrub ∧ t.journal = s.journal ∧
      (∀ p, t.port p = s.port p) ∧ t.shares = s.shares ∧
      (∀ d, t.desk d =
        { s.desk d with
          wand :=
            { (s.desk d).wand with
              doubleScan := min ((s.desk d).wand.doubleScan + 1) 65535
              hold := if 999 ≤ s.clock.phase then down (s.desk d).wand.hold else (s.desk d).wand.hold }
          ctx :=
            { (s.desk d).ctx with
              idle := if 999 ≤ s.clock.phase then down (s.desk d).ctx.idle else (s.desk d).ctx.idle
              gather := if 999 ≤ s.clock.phase then down (s.desk d).ctx.gather else (s.desk d).ctx.gather }
          spooler :=
            { (s.desk d).spooler with
              waitTimer := down (s.desk d).spooler.waitTimer, gapTimer := down (s.desk d).spooler.gapTimer } }) ∧
      t.pending.Nodup ∧
      ∀ c, c ∈ t.pending ↔
        (∃ d, (c = .waitTimerExpiry d ∧ due (s.desk d).spooler.waitTimer) ∨
          (c = .gapEnd d ∧ due (s.desk d).spooler.gapTimer) ∨
          (999 ≤ s.clock.phase ∧
            ((c = .holdTimerExpiry d ∧ due (s.desk d).wand.hold) ∨
              (c = .idleTimerExpiry d ∧ due (s.desk d).ctx.idle) ∨
              (c = .gatherTimerExpiry d ∧ due (s.desk d).ctx.gather)))) ∨
        (999 ≤ s.clock.phase ∧ c = .drainTimerExpiry ∧ due s.control.drainTimer) ∨
        (999 ≤ s.clock.fraction ∧
          ((c = .rollover ∧ 86399 ≤ s.clock.time) ∨
            (s.clock.time < 86399 ∧ s.clock.dateUnset = false ∧ s.control.part ≠ .retaining ∧
              ((c = .openingEvent ∧ s.clock.time + 1 = s.policy.data.desks.opening) ∨
                (c = .closingEvent ∧ s.clock.time + 1 = s.policy.data.desks.closing)))))

/-- Every command answers a next state, from every state, and leaves the queue of waiting commands as it was. That an
event whose condition does not hold answers one too is the model's choice (log 1), and so is that a request that passes
R161's steps in RETAINING does (log 7). -/
def Obligations.CommandsLeaveTheQueue : Prop :=
  ∀ (c : Instr) (s : State), ∃ t, exec c s = .next t ∧ t.pending = s.pending

/-- The state after reset is the state that a start-up with retention lost leaves (R154), the battery good, the input
lines as log 4 says, and everything volatile at its start-up value (log 3). -/
def Obligations.ResetIsAStartUpWithRetentionLost : Prop :=
  exec (.startupLost false)
    { State.reset with
      control := { State.reset.control with part := .starting, latch := false, batteryTimer := none }
      engine := Engine.start
      consolePort := PortState.start
      kioskPort := PortState.start
      uplinkPort := PortState.start } = .next State.reset

/-- R154, the state after reset being the one a start-up with retention lost leaves (the model's choice: log 3): the
tables are empty and SOUND with sum 0, the policy holds its defaults and is SOUND with all six reloaded marks set, the
journal holds the RESTART entry as sequence 1, today is day 0 with the date unset, and the part is in NIGHT with the
latch set and last start-up kind LOST; each port has the PART_STATE notice. -/
def Obligations.ResetValues : Prop :=
  let s := State.reset
  s.control.part = .night ∧ s.control.latch = true ∧ s.control.startKind = .lost ∧
    s.clock.today = 0 ∧ s.clock.time = 0 ∧ s.clock.dateUnset = true ∧ s.clock.sweepPending = false ∧
    s.clock.sweepRepeat = false ∧
    (s.borrowers.entries = [] ∧ s.borrowers.sum = 0 ∧ s.borrowers.health = .sound) ∧
    (s.loans.entries = [] ∧ s.loans.sum = 0 ∧ s.loans.health = .sound) ∧ s.loanLists = [] ∧
    (s.items.entries = [] ∧ s.items.sum = 0 ∧ s.items.health = .sound) ∧
    s.policy.data = defaultPolicyData ∧ s.policy.health = .sound ∧ marksClear s.policy.reloaded = 0 ∧
    (s.journal.entries.map fun e => (e.sequence, e.fields.kind)) = [(1, .restart)] ∧
    s.journal.head = 1 ∧ s.journal.cursor = 1 ∧ s.journal.tail = 2 ∧ s.journal.window = 0 ∧
    (∀ p, (s.port p).notices = [.partState .night] ∧ (s.port p).outQ = [] ∧ (s.port p).inFlight = none) ∧
    ∀ d, (s.desk d).wand.state = .off ∧ (s.desk d).spooler.state = .off ∧ (s.desk d).ctx.bound = none ∧
      (s.desk d).ctx.queue = [] ∧ (s.desk d).spooler.spool = []

/-- The state after reset (log 3) meets every law that the statements below say a step keeps. -/
def Obligations.ResetMeetsTheLaws : Prop :=
  State.reset.TablesLawful ∧ State.reset.TablesAreMaps ∧ State.reset.GrantLawful ∧ State.reset.BalancesLawful ∧
    State.reset.journal.Lawful ∧ State.reset.RoomLawful ∧ State.reset.DesksLawful ∧ State.reset.PortsLawful ∧
    State.reset.EngineLawful ∧ State.reset.LoanListsLawful ∧ State.reset.ClockLawful ∧
    State.reset.DeskLoansLawful ∧ State.reset.RecordsLawful ∧ State.reset.CountsLawful ∧ State.reset.Settled

/-! ## Laws that every step keeps -/

/-- R31, R43, R44, R48: every step keeps the slots of the three maps ascending, each record's own check stored with it,
and each table sum, the policy's among them, the sum of the stored checks modulo 2^32. -/
def Obligations.TableSumsStay : Prop :=
  ∀ s t : State, s.TablesLawful → step s = .next t → t.TablesLawful

/-- R30: every step keeps the three tables maps: no two records of a table share a key, and no slot lies at or past the
table's capacity; and the grant of whatever a port is being served goes on standing until its commit (R66). -/
def Obligations.TablesStayMaps : Prop :=
  ∀ s t : State, s.PortsLawful → s.EngineLawful → s.TablesLawful → s.TablesAreMaps → s.GrantLawful →
    step s = .next t → t.TablesAreMaps ∧ t.GrantLawful

/-- R39: every step keeps the loan lists and the loan map in agreement: each borrower number's list holds every loan
naming it, once each, by due day ascending. -/
def Obligations.LoanListsFollowTheMap : Prop :=
  ∀ s t : State, s.PortsLawful → s.EngineLawful → s.TablesAreMaps → s.GrantLawful → s.LoanListsLawful →
    step s = .next t → t.LoanListsLawful

/-- R35: every step keeps every borrower's fine_balance within 0 to 999,999. With the laws of the ports, the engine, the
tables and the lists, every step keeps these laws of the device too. R35: a loan's fine_accrued lies in 0 to 65,535.
R34: charged_through lies between the due day and the greater of it and today. R36, R37: while the borrower and loan
maps are SOUND every loan's borrower is present, every loan_count is the number of the borrower's loans and every
overdue_loans the number of those counted overdue; a loan counted overdue fell due before today. R38: no exception entry
is empty. R39: no list holds more than 255 loans. R144: every policy value lies in its range. The clauses on work in
progress (what TABLE_CLEAR and TABLE_REBUILD have reached, R140, R142) are what carries these laws over their steps. -/
def Obligations.BalancesStayInRange : Prop :=
  (∀ s t : State, s.BalancesLawful → step s = .next t → t.BalancesLawful) ∧
  ∀ s t : State, s.PortsLawful → s.EngineLawful → s.TablesLawful → s.TablesAreMaps → s.GrantLawful →
    s.LoanListsLawful → s.ClockLawful → s.DeskLoansLawful → s.RecordsLawful → s.CountsLawful → step s = .next t →
    t.RecordsLawful ∧ t.CountsLawful

/-- R123: every step keeps at most 3,072 entries in the journal, in consecutive ascending sequences from head to tail,
with the read cursor between them; and the journal keeps room for the entries of whatever a port is being served. -/
def Obligations.JournalStaysLawful : Prop :=
  ∀ s t : State, s.PortsLawful → s.EngineLawful → s.journal.Lawful → s.RoomLawful →
    step s = .next t → t.journal.Lawful ∧ t.RoomLawful

/-- R11, R20, R23, R24, R27, R107, R108, R109, R113, R115, R119: every step keeps the bounds of the desks' queues, open
slips and spools, their timers, no BORROWER label in the queue of a desk with auto-bind ON, nobody bound outside OPEN,
and, where the desks do not serve, wands and printers Off and queues empty. No printer stands in PRINTING between
commands: the model has it pass to WAITING within the event that enters it (log 10). -/
def Obligations.DesksStayLawful : Prop :=
  ∀ s t : State, s.DesksLawful → step s = .next t → t.DesksLawful

/-- R160, R161, R164: every step keeps at most 8 notices, 4 answers and one reply at a port, the reply being that of the
request in flight. -/
def Obligations.PortsStayLawful : Prop :=
  ∀ s t : State, s.PortsLawful → step s = .next t → t.PortsLawful

/-- R89 to R93, R97: every step keeps the engine's law: in OPEN, CLOSING and NIGHT something is always being served, what
is served waits for nothing, and the yield sets hold only waiting requesters and no circle, so that whenever requesters
wait one of them is eligible. -/
def Obligations.EngineStaysLawful : Prop :=
  ∀ s t : State, s.PortsLawful → s.EngineLawful → step s = .next t → t.EngineLawful

/-- R89, R91, R93 to R95: the engine's grants. Whenever requesters wait, one of them is eligible: one whose yield set is
empty. A grant decision picks among the eligible the lowest level, and among equals the first in the tie order; a grant
takes the requester from the waiting set and from every yield set. A port's first grant makes the checks of its request:
a refusal replies at once and leaves the engine and the tables as they are; otherwise the engine serves it with today,
the time of day and the policy sampled and what the checks found. A later step of a burst is granted without checks. At
the end of a step that is not the last (the Scrubber's, the sweep's below the marks, MARK_ALL's) the requester waits
again, its yield set every other requester waiting but the one granted; with none waiting it is granted again. -/
def Obligations.SomeWaitingRequesterIsEligible : Prop :=
  (∀ s : State, s.EngineLawful → (∃ r, s.engine.waiting.get r = true) → ∃ r, s.engine.eligible r = true) ∧
  (∀ (s : State) (r : Requester), s.engine.eligible r = true ↔
    s.engine.waiting.get r = true ∧ ∀ y, (s.engine.yields.get r).get y = false) ∧
  (∀ (s : State) (r : Requester), s.pick = some r ↔
    s.engine.eligible r = true ∧ ∀ q, s.engine.eligible q = true → q ≠ r →
      s.level r < s.level q ∨ (s.level r = s.level q ∧ tieOrder.idxOf r < tieOrder.idxOf q)) ∧
  (∀ (s : State) (r q y : Requester),
    (s.grantTo r).engine.waiting.get q = (s.engine.waiting.get q && q != r) ∧
    ((s.grantTo r).engine.yields.get q).get y = ((s.engine.yields.get q).get y && y != r)) ∧
  (∀ (s : State) (p : Port) (fl : InFlight) (op : EngineOp),
    (s.port p).inFlight = some fl → fl.op = some op →
    (fl.started = true →
      (s.grantTo (portRequester p)).engine.serving =
        some
          { who := portRequester p, day := s.clock.today, time := s.clock.time, policy := s.policy.data
            plan := .plain }) ∧
    (∀ code values, fl.started = false → s.grantCheck p op = .refuse code values →
      s.repliesAfter (s.grantTo (portRequester p)) p code {} values ∧
      (s.grantTo (portRequester p)).engine.serving = s.engine.serving ∧
      SameTables s (s.grantTo (portRequester p)) ∧ (s.grantTo (portRequester p)).journal = s.journal) ∧
    ∀ plan, fl.started = false → s.grantCheck p op = .serve plan →
      (s.grantTo (portRequester p)).engine.serving =
        some
          { who := portRequester p, day := s.clock.today, time := s.clock.time, policy := s.policy.data, plan } ∧
      ((s.grantTo (portRequester p)).port p).inFlight = some { fl with started := true }) ∧
  (∀ s : State,
    (s.grantTo .sweep).sweep = { s.sweep with state := .served } ∧
    (s.grantTo .sweep).engine.serving =
      some { who := .sweep, day := s.clock.today, time := s.clock.time, policy := s.policy.data, plan := .plain } ∧
    (s.grantTo .scrubber).engine.serving =
      some { who := .scrubber, day := s.clock.today, time := s.clock.time, policy := s.policy.data, plan := .plain }) ∧
  ∀ (c : Instr) (r0 : Requester) (s : State), s.EngineLawful → s.TablesLawful → s.Settled →
    s.journal.waitingDates = [] → s.serves r0 = true →
    ((c = .scrubStep ∧ r0 = .scrubber) ∨
      (c = .sweepBatch ∧ r0 = .sweep ∧ s.sweep.cursor + 32 < 12288 ∧ s.journal.occupancy + 33 < 2304) ∨
      ∃ p cursor marked, c = .markAllStep ∧ r0 = portRequester p ∧ s.portOp p = some (.markAll cursor marked) ∧
        cursor + 64 < 6144 ∧ (s.port p).inFlight.any (·.started) = true) →
    ∃ t, exec c s = .next t ∧ (s.pick = none → t.serves r0 = true) ∧
      ∀ r, s.pick = some r →
        (r = .sweep ∨ r = .scrubber ∨ ∃ p, r = portRequester p ∧ (s.port p).inFlight.any (·.started) = true) →
        t.serves r = true ∧ t.engine.waiting.get r0 = true ∧
        ∀ q, (t.engine.yields.get r0).get q = (s.engine.waiting.get q && q != r)

/-- R50: today never decreases, except at a start-up after retention loss; and every step keeps the ranges of the clock,
with day 0 while the date is unset. -/
def Obligations.TodayNeverDecreases : Prop :=
  ∀ s t : State, s.ClockLawful → step s = .next t → t.ClockLawful ∧
    (s.clock.today ≤ t.clock.today ∨
      ∃ below rest, s.pending = .startupLost below :: rest ∧ s.control.part = .starting ∧ s.control.latch = false)

/-- R68, R162: outside OPEN and CLOSING no CHECKOUT, RETURN or RENEW is being served, so that none of their commits
creates, renews or removes a loan, and no port but the Uplink has a burst at the engine; every step keeps this. -/
def Obligations.NoDeskLoanOutsideHours : Prop :=
  ∀ s t : State, s.PortsLawful → s.EngineLawful → s.DeskLoansLawful → step s = .next t → t.DeskLoansLawful

/-! ## Encodings -/

/-- R1 to R8: a label of any kind and number whose weighted sum leaves at most 9, printed with narrow elements `n` µs,
wide elements `w` µs (10w at least 23n) and gaps of at most 3n µs, is read as that label whichever way the wand moves. -/
def Obligations.LabelsReadBothWays : Prop :=
  ∀ (kind : LabelKind) (ds : List Nat) (n w g : Nat), ds.length = 10 → (∀ d ∈ ds, d ≤ 9) → checkValue ds ≤ 9 →
    1 ≤ n → 23 * n ≤ 10 * w → g ≤ 3 * n →
    decodeScan 83 (printedLabel kind ds n w g) = .label kind (numberOf ds) .forward ∧
    decodeScan 83 (printedLabel kind ds n w g).reverse = .label kind (numberOf ds) .backward

/-- R159: the receiver in HUNT finds in the bytes of a frame exactly that frame, good, and returns to HUNT; with any other
CRC the same bytes give one damaged frame and nothing else. -/
def Obligations.FramesAreReceived : Prop :=
  ∀ (tag code : Byte) (payload : List Byte), payload.length ≤ 1024 →
    Receiver.hunt.run (frameBytes tag code payload) = (.hunt, [.good tag code payload]) ∧
    ∀ c : Check, c ≠ crc16 (bytesOf 2 payload.length ++ [tag, code] ++ payload) →
      Receiver.hunt.run (syncByte :: (bytesOf 2 payload.length ++ [tag, code] ++ payload ++ bytesOf 2 c.toNat))
        = (.hunt, [.bad])

/-- R144, R168: the contents of a policy section, every value within its range, laid out as POLICY_LOAD carries them, are
read back as they were; and the payload of such a load has the length its layout asks for (R161). -/
def Obligations.PolicySectionsReadBack : Prop :=
  ∀ c : SectionContents, clampContents c = c → c.wellSized = true →
    readSection c.name c.bytes = some c ∧ policyLength (bytesOf 1 c.name.ctorIdx ++ c.bytes) = true

/-! ## Ports -/

/-- R161: a good frame is judged in order: BUSY while a request is in flight; UNKNOWN_REQUEST for a code that names
none; NOT_PERMITTED outside the port's set; NOT_READY in STARTING for a request other than STATUS; BAD_LENGTH where the
payload's length disagrees. Each answer echoes the frame's tag and its request code, and changes nothing but its own
port's receiver and output queue. (That frames are judged in RETAINING too is the model's choice: log 7.) -/
def Obligations.FramesAreJudgedInOrder : Prop :=
  (∀ (code : ReqCode) (p : Port) (tag : Byte) (payload : List Byte) (s : State),
    ((s.port p).inFlight.isSome = true →
      exec (requestCommand code p tag payload) s = .next (s.withAnswer p tag code.byte .busy)) ∧
    ((s.port p).inFlight = none → permitted code p = false →
      exec (requestCommand code p tag payload) s = .next (s.withAnswer p tag code.byte .notPermitted)) ∧
    ((s.port p).inFlight = none → permitted code p = true → s.control.part = .starting → code ≠ .status →
      exec (requestCommand code p tag payload) s = .next (s.withAnswer p tag code.byte .notReady)) ∧
    ((s.port p).inFlight = none → permitted code p = true → (s.control.part = .starting → code = .status) →
      lengthAgrees code payload = false →
      exec (requestCommand code p tag payload) s = .next (s.withAnswer p tag code.byte .badLength))) ∧
  ∀ (p : Port) (tag code : Byte) (payload : List Byte) (s : State), ReqCode.ofByte code = none →
    exec (.unknownRequest p tag code payload) s =
      .next (s.withAnswer p tag code (if (s.port p).inFlight.isSome then .busy else .unknownRequest))

/-- R159: a damaged frame raises the port's frame-error counter by one, saturating at 65,535, and is answered BAD_FRAME
with tag 0; a partial frame discarded by the inter-byte timeout, or by a stop-bit error at a UART port, raises the
counter and is not answered. The receiver is left in HUNT, and nothing else changes. (That this is so in RETAINING too
is the model's choice: log 7.) (The commands carry the bytes received: log 8.) -/
def Obligations.DamagedFramesAreCounted : Prop :=
  (∀ (p : Port) (received : List Byte) (s : State), (s.port p).rx.run received = (.hunt, [.bad]) →
    exec (.badFrame p received) s =
      .next ((s.modPort p fun q => { q with frameErrors := min (q.frameErrors + 1) 65535 }).withAnswer p 0 0 .badFrame)) ∧
  ∀ (p : Port) (received got : List Byte) (s : State), (s.port p).rx.run received = (.collecting got, []) →
    exec (.interByteTimeout p received) s =
      .next (s.modPort p fun q => { q with rx := .hunt, frameErrors := min (q.frameErrors + 1) 65535 }) ∧
    (p ≠ .console → exec (.stopBitError p received) s =
      .next (s.modPort p fun q => { q with rx := .hunt, frameErrors := min (q.frameErrors + 1) 65535 }))

/-- R160, R161 (a transfer as log 9 takes it): a frame that has left goes from the head of its port's output queue; a
reply takes its request out of flight with it. At the Console port, in a transfer of `n` + 1 bytes, the part clocks out
the attention byte and then the head frame's bytes from where the last transfer stopped, zeros after its end; a frame
whose last byte is clocked out leaves, and otherwise its place is kept. The bytes clocked in go to the receiver. Where
it finds nothing in them, nothing else changes. A good frame whose last byte comes in before the head frame's last byte
is out is answered BUSY, the port's request being in flight still, whether the transfer stops short of that byte or
carries it. One whose last byte comes in with that byte (the model's choice: log 9) or later, or with no frame waiting,
is judged as the arrival of its request, with the head frame gone. (That OUTPUT_FRAME_SENT acts at the Console port too
is the model's choice: log 36.) -/
def Obligations.FramesLeaveThePorts : Prop :=
  (∀ (p : Port) (f : OutFrame) (rest : List OutFrame) (s : State), (s.port p).outQ = f :: rest →
    exec (.outputFrameSent p) s =
      .next (s.modPort p fun q =>
        { q with outQ := rest, sent := 0, inFlight := if f.isReply then none else q.inFlight })) ∧
  (∀ (clockedIn : List Byte) (n : Nat) (rx : Receiver) (s : State), clockedIn.length = n + 1 →
    s.consolePort.rx.run clockedIn = (rx, []) →
    (∀ (f : OutFrame) (rest : List OutFrame), s.consolePort.outQ = f :: rest →
      exec (.consoleSelect clockedIn) s =
        .next (s.modPort .console fun q =>
          { q with
            rx := rx
            transfer := q.attentionByte :: (f.bytes.drop q.sent ++ List.replicate (n + 1) 0).take n
            outQ := if f.bytes.length ≤ q.sent + n then rest else q.outQ
            sent := if f.bytes.length ≤ q.sent + n then 0 else q.sent + n
            inFlight := if f.bytes.length ≤ q.sent + n ∧ f.isReply = true then none else q.inFlight })) ∧
    (s.consolePort.outQ = [] →
      exec (.consoleSelect clockedIn) s =
        .next (s.modPort .console fun q =>
          { q with rx := rx, transfer := q.attentionByte :: List.replicate n 0 }))) ∧
  (∀ (clockedIn : List Byte) (n : Nat) (rx : Receiver) (tag code : Byte) (payload : List Byte) (f : OutFrame)
      (rest : List OutFrame) (s : State), s.consolePort.outQ = f :: rest → s.consolePort.inFlight.isSome = true →
    clockedIn.length = n + 1 → s.consolePort.sent + (n + 1) ≤ f.bytes.length →
    s.consolePort.rx.run clockedIn = (rx, [.good tag code payload]) →
    exec (.consoleSelect clockedIn) s =
      .next ((s.withAnswer .console tag code .busy).modPort .console fun q =>
        { q with
          rx := rx
          transfer := s.consolePort.attentionByte :: (f.bytes.drop q.sent).take n
          sent := q.sent + n })) ∧
  (∀ (before after : List Byte) (n : Nat) (rx1 rx2 : Receiver) (tag code : Byte) (payload : List Byte) (f : OutFrame)
      (rest : List OutFrame) (s : State), s.consolePort.outQ = f :: rest →
    s.consolePort.sent + before.length = f.bytes.length → after.length = n + 1 →
    let s1 := s.modPort .console fun q =>
      { q with
        rx := rx1
        transfer := q.attentionByte :: (f.bytes.drop q.sent ++ List.replicate n 0)
        outQ := rest
        sent := 0
        inFlight := if f.isReply then none else q.inFlight }
    (s.consolePort.inFlight.isSome = true → s.consolePort.rx.run before = (rx1, [.good tag code payload]) →
      rx1.run after = (rx2, []) →
      exec (.consoleSelect (before ++ after)) s =
        .next (s1.modPort .console fun q =>
          { q with rx := rx2, outQ := (s.withAnswer .console tag code .busy).consolePort.outQ.tail })) ∧
    (∀ (c : ReqCode) (t : State), s.consolePort.rx.run before = (rx1, []) →
      rx1.run after = (rx2, [.good tag code payload]) → ReqCode.ofByte code = some c →
      exec (requestCommand c .console tag payload) s1 = .next t →
      exec (.consoleSelect (before ++ after)) s = .next (t.modPort .console fun q => { q with rx := rx2 }))) ∧
  ∀ (clockedIn : List Byte) (n : Nat) (rx : Receiver) (tag code : Byte) (payload : List Byte) (c : ReqCode) (s t : State),
    s.consolePort.outQ = [] → clockedIn.length = n + 1 →
    s.consolePort.rx.run clockedIn = (rx, [.good tag code payload]) → ReqCode.ofByte code = some c →
    exec (requestCommand c .console tag payload)
      (s.modPort .console fun q => { q with transfer := q.attentionByte :: List.replicate n 0 }) = .next t →
    exec (.consoleSelect clockedIn) s = .next (t.modPort .console fun q => { q with rx := rx })

/-- R163, R131: at a break the port's receiver enters HUNT, its output queue and its notices are discarded, a request
still at the engine runs on with its reply to be discarded, and one whose reply was ready leaves flight; the sticky flag
and the counters stay. At the Uplink port the journal window disarms and the read cursor goes to the head. -/
def Obligations.BreaksEmptyThePort : Prop :=
  ∀ (p : Port) (s : State), ∃ t, exec (.portBreak p) s = .next t ∧
    (t.port p).rx = .hunt ∧ (t.port p).outQ = [] ∧ (t.port p).notices = [] ∧
    (t.port p).frameErrors = (s.port p).frameErrors ∧ (t.port p).overflow = (s.port p).overflow ∧
    (∀ fl, (s.port p).inFlight = some fl →
      (t.port p).inFlight = if fl.op.isSome then some { fl with discard := true } else none) ∧
    ((s.port p).inFlight = none → (t.port p).inFlight = none) ∧
    (∀ q, q ≠ p → t.port q = s.port q) ∧ (∀ d, t.desk d = s.desk d) ∧ t.shares = s.shares ∧
    t.journal = (if p = .uplink then { s.journal with window := 0, cursor := s.journal.head } else s.journal) ∧
    t.control = s.control ∧ t.clock = s.clock ∧ t.policy = s.policy ∧ t.borrowers = s.borrowers ∧ t.loans = s.loans ∧
    t.loanLists = s.loanLists ∧ t.items = s.items ∧ t.engine = s.engine ∧ t.sweep = s.sweep ∧ t.scrub = s.scrub

/-- R164: a notice placed in a queue of fewer than 8 is appended, and one placed in a full queue is discarded with the
sticky overflow flag set, in each queue it is routed to by itself. NOTICE_TAKE removes the oldest notice, and its reply
carries the notice and the number left; with the queue empty the reply is EMPTY. -/
def Obligations.NoticesAreTakenInOrder : Prop :=
  (∀ (n : Notice) (s : State) (placed : PortState → PortState),
    (placed = fun q =>
      if q.notices.length < 8 then { q with notices := q.notices ++ [n] } else { q with overflow := true }) →
    (∀ p q, (s.notify p n).port q = if q = p then placed (s.port q) else s.port q) ∧
    (∀ q, (s.notifyAll n).port q = placed (s.port q)) ∧
    ∀ q, (s.notifyConsoleUplink n).port q = if q = .kiosk then s.port q else placed (s.port q)) ∧
  ∀ (p : Port) (tag : Byte) (s : State), s.takes p →
    (∀ n rest, (s.port p).notices = n :: rest →
      exec (.noticeTake p tag []) s =
        .next ((s.modPort p fun q => { q with notices := rest }).withReply p tag .noticeTake .ok {}
          (n.fields ++ [.small rest.length]))) ∧
    ((s.port p).notices = [] →
      exec (.noticeTake p tag []) s = .next (s.withReply p tag .noticeTake .empty {} []))

/-- R166: STATUS, in every part state (that a frame is judged in RETAINING: log 7), replies with the groups its port
sees and clears that port's own copies of the counters and its sticky flags, and no other port's. (The layout of the
groups: log 14.) -/
def Obligations.StatusClearsItsOwnCopies : Prop :=
  ∀ (p : Port) (tag : Byte) (s : State), (s.port p).inFlight = none →
    ∃ t, exec (.status p tag []) s = .next t ∧
      (t.port p).outQ =
        (s.port p).outQ ++
          [{ tag
             code := .ok
             request := ReqCode.status.byte
             flags := {}
             results := s.statusFields p
             isReply := true }] ∧
      (t.port p).frameErrors = 0 ∧ (t.port p).overflow = false ∧ (t.port p).notices = (s.port p).notices ∧
      t.shares.wandAConsole = (if p = .console then WandCounters.start else s.shares.wandAConsole) ∧
      t.shares.wandBConsole = (if p = .console then WandCounters.start else s.shares.wandBConsole) ∧
      t.shares.wandBKiosk = (if p = .kiosk then WandCounters.start else s.shares.wandBKiosk) ∧
      t.shares.lostAConsole = (if p = .console then 0 else s.shares.lostAConsole) ∧
      t.shares.lostBConsole = (if p = .console then 0 else s.shares.lostBConsole) ∧
      t.shares.lostBKiosk = (if p = .kiosk then 0 else s.shares.lostBKiosk) ∧
      t.shares.dayMarkConsole = (if p = .console then 0 else s.shares.dayMarkConsole) ∧
      t.shares.dayMarkUplink = (if p = .uplink then 0 else s.shares.dayMarkUplink) ∧
      t.shares.dateEntryConsole = (if p = .console then 0 else s.shares.dateEntryConsole) ∧
      t.shares.dateEntryUplink = (if p = .uplink then 0 else s.shares.dateEntryUplink) ∧
      (∀ d, portDesk p = some d →
        t.desk d = { s.desk d with ctx := { (s.desk d).ctx with overflow := false, readEmpty := false } }) ∧
      (∀ d, portDesk p ≠ some d → t.desk d = s.desk d) ∧ (∀ q, q ≠ p → t.port q = s.port q) ∧ s.sameInner t

/-! ## Wands -/

/-- R2, R3: the changes of an Active wand's line. In READY a change to DARK begins a scan with an empty list. While
SCANNING each change ends an element: its width, the difference of the two timer readings across a wrap, kept within 1 to
65,535, is stored while the list holds fewer than 84, and counted. In QUIET_WAIT nothing is stored. A decoder that is not
Active takes no part. 50,000 µs of LIGHT in QUIET_WAIT make the phase READY. (The timer's width of 32 bits, and with it
where the difference wraps, is the model's choice: log 6. The count of the elements saturates at 255: log 30.) -/
def Obligations.TransitionsFrameAScan : Prop :=
  (∀ (d : Desk) (level : LineLevel) (stamp : Stamp) (s : State), (s.desk d).lines.wand ≠ level →
    ∃ w : Wand, exec (.wandTransition d level stamp) s =
        .next (s.modDesk d fun x => { x with lines := { x.lines with wand := level }, wand := w }) ∧
      ((s.desk d).wand.state ≠ .active → w = (s.desk d).wand) ∧
      ((s.desk d).wand.state = .active → (s.desk d).wand.phase = .quietWait →
        w = { (s.desk d).wand with line := level, lastTransition := stamp }) ∧
      ((s.desk d).wand.state = .active → (s.desk d).wand.phase = .ready →
        w = if level = .dark then
            { (s.desk d).wand with
              phase := .scanning, elements := [], count := 0, line := level, lastTransition := stamp }
          else { (s.desk d).wand with line := level, lastTransition := stamp }) ∧
      ((s.desk d).wand.state = .active → (s.desk d).wand.phase = .scanning →
        w = { (s.desk d).wand with
          line := level
          lastTransition := stamp
          elements :=
            if (s.desk d).wand.elements.length < 84 then
              (s.desk d).wand.elements ++ [max 1 (min (stamp - (s.desk d).wand.lastTransition).toNat 65535)]
            else (s.desk d).wand.elements
          count := min ((s.desk d).wand.count + 1) 255 })) ∧
  ∀ (d : Desk) (s : State), (s.desk d).wand.state = .active → (s.desk d).wand.phase = .quietWait →
    (s.desk d).wand.line = .light →
    exec (.quietPeriod d) s =
      .next (s.modDesk d fun x => { x with wand := { x.wand with phase := .ready } })

/-- R4, R6 to R9: a scan that decodes to no label, and a wand at rest on dark, raise the misread counter of every copy by
one, saturating at 65,535, and replace the last-misread record; a decoded scan leaves the decoder READY, an abandoned one
in QUIET_WAIT. The desk, its queue and the notices are left alone. -/
def Obligations.MisreadsAreCountedAlone : Prop :=
  ∀ (d : Desk) (s : State), (s.desk d).wand.state = .active → (s.desk d).wand.phase = .scanning →
    (∀ m, (s.desk d).wand.line = .light →
      decodeScan (s.desk d).wand.count (s.desk d).wand.elements = .misread m →
      exec (.scanEnd d) s =
        .next ((s.modDesk d fun x =>
          { x with wand := { x.wand with phase := .ready, elements := [], count := 0 } }).modWandCopies d fun c =>
            { c with misread := min (c.misread + 1) 65535, lastMisread := some m })) ∧
    ((s.desk d).wand.line = .dark →
      exec (.wandRestsOnDark d) s =
        .next ((s.modDesk d fun x =>
          { x with wand := { x.wand with phase := .quietWait, elements := [], count := 0 } }).modWandCopies d fun c =>
            { c with
              misread := min (c.misread + 1) 65535, lastMisread := some { cause := .resting, position := none } }))

/-- R10, R17, R18, R24: a scan that decodes to a label in OPEN or CLOSING raises the good-read counters. A repeat of the
last accepted label within the double-scan window is dropped and counted a duplicate, with the double-scan timer left
running. Otherwise it becomes the last accepted label and the timer starts at 0. An ITEM, and with auto-bind OFF a
BORROWER, joins the scan queue while that holds fewer than 8, with SCAN_READY if it was empty; a full queue keeps its
oldest or its newest by the overflow mode and sets the sticky flag. With auto-bind ON a BORROWER is discarded in
CLOSING, with no change of the desk, no notice and no count but the good read, and is bound in OPEN and the idle timer
starts; the borrower already bound keeps its bind time, and the open slip of another is cut. A bind places
BORROWER_BOUND with the bind time that then stands, behind what the cut places, and nothing else: no BORROWER_UNBOUND
for the borrower replaced. -/
def Obligations.ValidLabelsReachTheDesk : Prop :=
  ∀ (d : Desk) (kind : LabelKind) (number : Nat) (dir : Direction) (s : State),
    (s.desk d).wand.state = .active → (s.desk d).wand.phase = .scanning → (s.desk d).wand.line = .light →
    s.control.part = .open ∨ s.control.part = .closing →
    decodeScan (s.desk d).wand.count (s.desk d).wand.elements = .label kind number dir →
    let r : LabelReport := { kind, number, direction := dir, time := s.clock.time }
    let dropped := (s.terms d).doubleScan ≠ 0 ∧ (s.desk d).wand.lastAccepted = some (kind, number) ∧
      (s.desk d).wand.doubleScan < (s.terms d).doubleScan
    ∃ t, exec (.scanEnd d) s = .next t ∧ s.sameInner t ∧
      (t.desk d).wand.phase = .ready ∧ (t.desk d).wand.elements = [] ∧ (t.desk d).wand.count = 0 ∧
      (∀ e, e ≠ d → t.desk e = s.desk e) ∧ (∀ p, p ≠ deskPort d → t.port p = s.port p) ∧
      (dropped →
        t.shares =
          (s.modWandCopies d fun c =>
            { c with
              goodRead := min (c.goodRead + 1) 65535, duplicate := min (c.duplicate + 1) 65535 }).shares ∧
        (t.desk d).ctx = (s.desk d).ctx ∧
        (t.desk d).wand = { (s.desk d).wand with phase := .ready, elements := [], count := 0 } ∧
        t.port (deskPort d) = s.port (deskPort d)) ∧
      (¬dropped →
        (t.desk d).wand =
          { (s.desk d).wand with
            phase := .ready, elements := [], count := 0, lastAccepted := some (kind, number), doubleScan := 0 } ∧
        (kind = .item ∨ (s.terms d).autoBind = false →
          t.shares = (s.modWandCopies d fun c => { c with goodRead := min (c.goodRead + 1) 65535 }).shares ∧
          ((s.desk d).ctx.queue.length < 8 →
            (t.desk d).ctx = { (s.desk d).ctx with queue := (s.desk d).ctx.queue ++ [r] } ∧
            t.port (deskPort d) =
              if (s.desk d).ctx.queue = [] then (s.port (deskPort d)).place (.scanReady kind number)
              else s.port (deskPort d)) ∧
          (8 ≤ (s.desk d).ctx.queue.length →
            (t.desk d).ctx =
              { (s.desk d).ctx with
                overflow := true
                queue :=
                  if (s.terms d).overflow = .keepOldest then (s.desk d).ctx.queue
                  else (s.desk d).ctx.queue.drop 1 ++ [r] } ∧
            t.port (deskPort d) = s.port (deskPort d))) ∧
        (kind = .borrower → (s.terms d).autoBind = true → s.control.part = .closing →
          t.shares = (s.modWandCopies d fun c => { c with goodRead := min (c.goodRead + 1) 65535 }).shares ∧
          (t.desk d).ctx = (s.desk d).ctx ∧ t.port (deskPort d) = s.port (deskPort d)) ∧
        (kind = .borrower → (s.terms d).autoBind = true → s.control.part = .open →
          (t.desk d).ctx.idle = some (s.terms d).idleTime ∧ (t.desk d).ctx.queue = (s.desk d).ctx.queue ∧
          ((∀ b, (s.desk d).ctx.bound = some b → b.borrower = number) →
            t.shares = (s.modWandCopies d fun c => { c with goodRead := min (c.goodRead + 1) 65535 }).shares) ∧
          ((s.desk d).ctx.bound = none →
            (t.desk d).ctx.bound = some { borrower := number, time := s.clock.time } ∧
            (t.desk d).ctx.openSlip = (s.desk d).ctx.openSlip ∧
            t.port (deskPort d) = (s.port (deskPort d)).place (.borrowerBound number s.clock.time)) ∧
          ∀ b, (s.desk d).ctx.bound = some b →
            (b.borrower = number → (t.desk d).ctx.bound = some b ∧
              (t.desk d).ctx.openSlip = (s.desk d).ctx.openSlip ∧
              t.port (deskPort d) = (s.port (deskPort d)).place (.borrowerBound number b.time)) ∧
            (b.borrower ≠ number →
              (t.desk d).ctx.bound = some { borrower := number, time := s.clock.time } ∧
              (t.desk d).ctx.openSlip = none ∧ (t.desk d).spooler = ((s.cut d).desk d).spooler ∧
              t.shares =
                ((s.cut d).modWandCopies d fun c => { c with goodRead := min (c.goodRead + 1) 65535 }).shares ∧
              t.port (deskPort d) = ((s.cut d).port (deskPort d)).place (.borrowerBound number s.clock.time))))

/-- R4, R11, R12, R13, R21: a change of a desk's presence input becomes its presence state, and the wand takes the state
R11's table gives with the hold timer as R12 moves it: in PRESENCE_HOLD a release of an Active wand starts it at 30 s
and an assertion stops it. A release with unbind-on-leave ON unbinds a bound borrower, cutting its slip and placing
BORROWER_UNBOUND with cause LEFT behind what the cut places; any other change leaves the binding. The hold timer's
expiry stops it, and the wand takes its state again. A wand that leaves Active abandons its scan, one that enters it
takes the line's level with its framing in QUIET_WAIT, and one that stays keeps its scan. -/
def Obligations.PresenceMovesTheWand : Prop :=
  (∀ (d : Desk) (input : Presence) (s : State), (s.desk d).lines.presence ≠ input →
    ∃ t, exec (.presenceChange d input) s = .next t ∧ s.sameInner t ∧
      (t.desk d).lines.presence = input ∧ (t.desk d).lines.wand = (s.desk d).lines.wand ∧
      (t.desk d).ctx.presence = input ∧
      (t.desk d).wand.hold =
        (if (s.terms d).wandMode = .presenceHold then
          (if input = .asserted then none
           else if (s.desk d).wand.state = .active then some 30 else (s.desk d).wand.hold)
         else (s.desk d).wand.hold) ∧
      (t.desk d).wand.state =
        wandStateBy s.control.part (s.terms d).wandMode input (t.desk d).wand.hold.isSome ∧
      (s.desk d).wand.Follows (t.desk d).wand (s.desk d).lines.wand ∧
      (if input = .released ∧ (s.terms d).unbindOnLeave = true ∧ (s.desk d).ctx.bound.isSome = true then
        (t.desk d).ctx.bound = none ∧ (t.desk d).ctx.idle = none ∧ (t.desk d).ctx.openSlip = none ∧
        (t.desk d).spooler = ((s.cut d).desk d).spooler ∧ t.shares = (s.cut d).shares ∧
        ∀ b, (s.desk d).ctx.bound = some b →
          t.port (deskPort d) = ((s.cut d).port (deskPort d)).place (.borrowerUnbound b.borrower .left)
      else
        (t.desk d).ctx = { (s.desk d).ctx with presence := input } ∧ (t.desk d).spooler = (s.desk d).spooler ∧
        (t.desk d).lines = { (s.desk d).lines with presence := input } ∧
        (∀ p, t.port p = s.port p) ∧ t.shares = s.shares) ∧
      (t.desk d).ctx.queue = (s.desk d).ctx.queue ∧ (∀ e, e ≠ d → t.desk e = s.desk e) ∧
      ∀ p, p ≠ deskPort d → t.port p = s.port p) ∧
  ∀ (d : Desk) (s : State), (s.desk d).wand.hold.isSome = true →
    ∃ t, exec (.holdTimerExpiry d) s = .next t ∧ s.sameInner t ∧ (t.desk d).wand.hold = none ∧
      (t.desk d).wand.state =
        wandStateBy s.control.part (s.terms d).wandMode (s.desk d).ctx.presence false ∧
      (s.desk d).wand.Follows (t.desk d).wand (s.desk d).lines.wand ∧
      (t.desk d).ctx = (s.desk d).ctx ∧ (t.desk d).spooler = (s.desk d).spooler ∧
      (t.desk d).lines = (s.desk d).lines ∧ (∀ e, e ≠ d → t.desk e = s.desk e) ∧ (∀ p, t.port p = s.port p) ∧
      t.shares = s.shares

/-! ## Desks -/

/-- R19, R20, R108, R106: the idle timer's expiry unbinds the desk with cause IDLE: the open slip is cut, the borrower and
the timer go, and BORROWER_UNBOUND is placed after what the cut places. The gather timer's expiry cuts the open slip
alone. -/
def Obligations.DeskTimersUnbindAndCut : Prop :=
  (∀ (d : Desk) (b : Binding) (s : State), (s.desk d).ctx.bound = some b → (s.desk d).ctx.idle.isSome = true →
    exec (.idleTimerExpiry d) s =
      .next (((s.cut d).modDesk d fun x => { x with ctx := { x.ctx with bound := none, idle := none } }).notify
        (deskPort d) (.borrowerUnbound b.borrower .idle))) ∧
  ∀ (d : Desk) (s : State), (s.desk d).ctx.gather.isSome = true → exec (.gatherTimerExpiry d) s = .next (s.cut d)

/-- R106, R109: a cut of an empty open slip does nothing. A cut of lines empties the open slip, stops the gather timer and
offers the LOAN slip to the desk's spool: at a spool of 16 slips it is lost, counted in every copy and reported by
SLIP_LOST; otherwise it joins the spool's end, and an IDLE printer begins it: it stands in WAITING after the offer, having
passed through PRINTING within it (log 10). -/
def Obligations.CutsOfferTheSlip : Prop :=
  ∀ (d : Desk) (s : State),
    ((s.desk d).ctx.openSlip = none → s.cut d = s) ∧
    ∀ o, (s.desk d).ctx.openSlip = some o →
      ((s.cut d).desk d).ctx = { (s.desk d).ctx with openSlip := none, gather := none } ∧ s.sameInner (s.cut d) ∧
      (∀ e, e ≠ d → (s.cut d).desk e = s.desk e) ∧
      (if 16 ≤ (s.desk d).spooler.spool.length then
        ((s.cut d).desk d).spooler = (s.desk d).spooler ∧ (s.cut d).shares = (s.addLostSlips d 1).shares ∧
        ∀ p, (s.cut d).port p =
          if p = deskPort d then (s.port p).place (.slipLost .spoolFull 1 (some .loan) (some o.borrower)) else s.port p
      else
        ((s.cut d).desk d).spooler.spool =
          (s.desk d).spooler.spool ++
            [{ desk := d, day := o.day, time := o.time, body := .loan o.borrower o.lines }] ∧
        ((s.desk d).spooler.state ≠ .idle → ((s.cut d).desk d).spooler.state = (s.desk d).spooler.state) ∧
        ((s.desk d).spooler.state = .idle → ((s.cut d).desk d).spooler.state = .waiting) ∧
        (s.cut d).shares = s.shares ∧ ∀ p, (s.cut d).port p = s.port p)

/-- R26: SCAN_TAKE takes the oldest label, which becomes the last taken, and replies with it and the number left; with the
queue empty it replies with the last taken label, STALE, and sets read-empty, or with EMPTY where none was ever taken. -/
def Obligations.ScanTakeTakesTheOldest : Prop :=
  ∀ (p : Port) (d : Desk) (tag : Byte) (s : State), s.takes p → portDesk p = some d →
    (∀ r rest, (s.desk d).ctx.queue = r :: rest →
      exec (.scanTake p tag []) s =
        .next ((s.modDesk d fun x => { x with ctx := { x.ctx with queue := rest, lastTaken := some r } }).withReply p tag
          .scanTake .ok {} [.raw r.bytes, .small rest.length])) ∧
    (∀ r, (s.desk d).ctx.queue = [] → (s.desk d).ctx.lastTaken = some r →
      exec (.scanTake p tag []) s =
        .next ((s.modDesk d fun x => { x with ctx := { x.ctx with readEmpty := true } }).withReply p tag
          .scanTake .ok { stale := true } [.raw r.bytes, .small 0])) ∧
    ((s.desk d).ctx.queue = [] → (s.desk d).ctx.lastTaken = none →
      exec (.scanTake p tag []) s =
        .next ((s.modDesk d fun x => { x with ctx := { x.ctx with readEmpty := true } }).withReply p tag
          .scanTake .empty {} []))

/-- R22, R108: SLIP_CUT cuts the desk's open slip, and UNBIND cuts it and unbinds a bound borrower with cause REQUEST; the
reply gives the slip status, absent for an empty open slip, with SLIP_LOST where the slip met a full spool, and UNBIND's
the borrower unbound, absent where none was. -/
def Obligations.CutAndUnbindOnRequest : Prop :=
  ∀ (p : Port) (d : Desk) (tag : Byte) (status : SlipStatus) (s : State), s.takes p → portDesk p = some d →
    status = (if (s.desk d).ctx.openSlip = none then .none
      else if 16 ≤ (s.desk d).spooler.spool.length then .spoolFullLost else .queued) →
    exec (.slipCut p tag []) s =
      .next ((s.cut d).withReply p tag .slipCut .ok { slipLost := status == .spoolFullLost } [.raw status.bytes]) ∧
    ((s.desk d).ctx.bound = none → exec (.unbind p tag []) s =
      .next ((s.cut d).withReply p tag .unbind .ok { slipLost := status == .spoolFullLost }
        [.flag false, .ident 0, .raw status.bytes])) ∧
    ∀ b, (s.desk d).ctx.bound = some b → exec (.unbind p tag []) s =
      .next ((((s.cut d).modDesk d fun x => { x with ctx := { x.ctx with bound := none, idle := none } }).notify
        (deskPort d) (.borrowerUnbound b.borrower .request)).withReply p tag .unbind .ok
          { slipLost := status == .spoolFullLost } [.flag true, .ident b.borrower, .raw status.bytes])

/-! ## Acceptance at the engine -/

/-- R67, R20, R25: a circulation request accepted while the engine serves waits there with the borrower and the item it
resolved; a borrower who is the desk's current one restarts the idle timer at the requests that name a borrower. Nothing
else changes. A refused one is answered, and takes no label and restarts no timer: by the part state (DESK_CLOSING in
CLOSING, DESK_CLOSED in NIGHT; a RETURN in NIGHT alone); by the ranges of its fields (BAD_FIELD); a Kiosk override
(NOT_PERMITTED); "current" with nobody bound (NO_BORROWER). (The refusals come in this order: log 18. The flag MISSING
is 0, and NOT_LOANABLE 1; the action SET is 0, and CLEAR 1: log 16.) (A refusal carries only the values its rule names:
log 27.) -/
def Obligations.CirculationRequestsWait : Prop :=
  (∀ (p : Port) (d : Desk) (tag : Byte) (v b i : Nat) (overriding : Bool) (s : State),
    s.takes p → portDesk p = some d → s.engine.serving.isSome = true → s.names d v b → i ≤ 9999999999 →
    (s.control.part = .open → (overriding = true → p = .console) →
      exec (.checkout p tag (bytesOf 5 v ++ bytesOf 5 i ++ bytesOf 1 overriding.toNat)) s =
        .next ((s.restartIdle d b).withWaiting p tag .checkout (.checkout b i overriding) none) ∧
      exec (.renew p tag (bytesOf 5 v ++ bytesOf 5 i ++ bytesOf 1 overriding.toNat)) s =
        .next ((s.restartIdle d b).withWaiting p tag .renew (.renew b i overriding) none)) ∧
    (s.control.part.desksServe = true →
      exec (.returnItem p tag (bytesOf 5 i)) s = .next (s.withWaiting p tag .returnItem (.returnItem i) none)) ∧
    exec (.borrowerQuery p tag (bytesOf 5 v)) s =
      .next ((s.restartIdle d b).withWaiting p tag .borrowerQuery (.borrowerQuery b) none) ∧
    (∀ start, start ≤ 255 →
      exec (.loansList p tag (bytesOf 5 v ++ bytesOf 1 start)) s =
        .next ((s.restartIdle d b).withWaiting p tag .loansList (.loansList b start) none)) ∧
    (s.control.part = .open → p = .console →
      (∀ amount, 1 ≤ amount → amount ≤ 999999 →
        exec (.finePay p tag (bytesOf 5 v ++ bytesOf 4 amount)) s =
          .next ((s.restartIdle d b).withWaiting p tag .finePay (.finePay b amount) none)) ∧
      (∀ category, category ≤ 7 →
        exec (.borrowerAdd p tag (bytesOf 5 i ++ bytesOf 1 category)) s =
          .next (s.withWaiting p tag .borrowerAdd (.borrowerAdd i category) none)) ∧
      ∀ (flag : ItemFlag) (set : Bool),
        exec (.itemFlagSet p tag (bytesOf 5 i ++ bytesOf 1 flag.ctorIdx ++ bytesOf 1 (onOffNumber set))) s =
          .next (s.withWaiting p tag .itemFlagSet (.itemFlagSet i flag set) none))) ∧
  (∀ (tag : Byte) (b : Nat) (s : State), s.takes .uplink → s.engine.serving.isSome = true → b ≤ 9999999999 →
    exec (.borrowerQuery .uplink tag (bytesOf 5 b)) s =
      .next (s.withWaiting .uplink tag .borrowerQuery (.borrowerQuery b) none)) ∧
  ∀ (code : ReqCode) (p : Port) (tag : Byte) (payload : List Byte) (num : Nat → Nat → Nat) (bad : Nat → Prop)
      (unbound : Prop) (s : State),
    s.takes p → permitted code p = true → lengthAgrees code payload = true →
    (num = fun off len => valueOf ((payload.drop off).take len)) →
    (bad = fun n => 9999999999 < n ∧ n ≠ 0xFFFFFFFFFF) →
    (unbound = (num 0 5 = 0xFFFFFFFFFF ∧ ∃ d, portDesk p = some d ∧ (s.desk d).ctx.bound = none)) →
    (code ∈ [.checkout, .renew, .finePay, .borrowerAdd, .itemFlagSet] →
      (s.control.part = .closing →
        exec (requestCommand code p tag payload) s = .next (s.withReply p tag code .deskClosing {} [])) ∧
      (s.control.part = .night →
        exec (requestCommand code p tag payload) s = .next (s.withReply p tag code .deskClosed {} []))) ∧
    (code = .returnItem →
      (s.control.part = .night →
        exec (requestCommand code p tag payload) s = .next (s.withReply p tag code .deskClosed {} [])) ∧
      (s.control.part ≠ .night → bad (num 0 5) →
        exec (requestCommand code p tag payload) s = .next (s.withReply p tag code .badField {} []))) ∧
    (code = .checkout ∨ code = .renew → s.control.part = .open →
      (bad (num 0 5) ∨ bad (num 5 5) ∨ 1 < num 10 1 →
        exec (requestCommand code p tag payload) s = .next (s.withReply p tag code .badField {} [])) ∧
      (¬bad (num 0 5) → ¬bad (num 5 5) → num 10 1 = 1 → p = .kiosk →
        exec (requestCommand code p tag payload) s = .next (s.withReply p tag code .notPermitted {} [])) ∧
      (unbound → ¬bad (num 5 5) → num 10 1 = 0 ∨ (num 10 1 = 1 ∧ p = .console) →
        exec (requestCommand code p tag payload) s = .next (s.withReply p tag code .noBorrower {} []))) ∧
    (code = .finePay → s.control.part = .open →
      (bad (num 0 5) ∨ num 5 4 = 0 ∨ 999999 < num 5 4 →
        exec (requestCommand code p tag payload) s = .next (s.withReply p tag code .badField {} [])) ∧
      (unbound → 1 ≤ num 5 4 → num 5 4 ≤ 999999 →
        exec (requestCommand code p tag payload) s = .next (s.withReply p tag code .noBorrower {} []))) ∧
    (code = .borrowerAdd → s.control.part = .open → (9999999999 < num 0 5 ∨ 7 < num 5 1) →
      exec (requestCommand code p tag payload) s = .next (s.withReply p tag code .badField {} [])) ∧
    (code = .itemFlagSet → s.control.part = .open → (9999999999 < num 0 5 ∨ 1 < num 5 1 ∨ 1 < num 6 1) →
      exec (requestCommand code p tag payload) s = .next (s.withReply p tag code .badField {} [])) ∧
    (code = .borrowerQuery ∨ code = .loansList →
      (bad (num 0 5) ∨ (p = .uplink ∧ num 0 5 = 0xFFFFFFFFFF) →
        exec (requestCommand code p tag payload) s = .next (s.withReply p tag code .badField {} [])) ∧
      (unbound → exec (requestCommand code p tag payload) s = .next (s.withReply p tag code .noBorrower {} [])))

/-- R25, R23, R67: an item named "from wand" is the oldest label of the desk's queue, which is taken and reported in the
reply: of a CHECKOUT or RENEW in OPEN, with or without the Console's override, and of a RETURN in OPEN and CLOSING. With
the queue empty the request is refused NO_ITEM and nothing is taken; a BORROWER label is taken and the request refused
WRONG_KIND with its report. (The report stands last in a reply: log 15; a refusal carries only the values its rule
names, and the report: log 27.) -/
def Obligations.ItemsFromTheWandAreTaken : Prop :=
  ∀ (p : Port) (d : Desk) (tag : Byte) (v b : Nat) (o : Bool) (s : State),
    s.takes p → portDesk p = some d → s.engine.serving.isSome = true → s.names d v b →
    s.control.part = .open ∨ s.control.part = .closing → o = false ∨ p = .console →
    (∀ r rest, (s.desk d).ctx.queue = r :: rest → r.kind = .item →
      (s.control.part = .open →
        exec (.checkout p tag (bytesOf 5 v ++ bytesOf 5 0xFFFFFFFFFF ++ [if o = true then 1 else 0])) s =
          .next (((s.withoutOldest d r rest).restartIdle d b).withWaiting p tag .checkout (.checkout b r.number o)
            (some r)) ∧
        exec (.renew p tag (bytesOf 5 v ++ bytesOf 5 0xFFFFFFFFFF ++ [if o = true then 1 else 0])) s =
          .next (((s.withoutOldest d r rest).restartIdle d b).withWaiting p tag .renew (.renew b r.number o)
            (some r))) ∧
      exec (.returnItem p tag (bytesOf 5 0xFFFFFFFFFF)) s =
        .next ((s.withoutOldest d r rest).withWaiting p tag .returnItem (.returnItem r.number) (some r))) ∧
    ((s.desk d).ctx.queue = [] →
      (s.control.part = .open →
        exec (.checkout p tag (bytesOf 5 v ++ bytesOf 5 0xFFFFFFFFFF ++ [if o = true then 1 else 0])) s =
          .next (s.withReply p tag .checkout .noItem {} []) ∧
        exec (.renew p tag (bytesOf 5 v ++ bytesOf 5 0xFFFFFFFFFF ++ [if o = true then 1 else 0])) s =
          .next (s.withReply p tag .renew .noItem {} [])) ∧
      exec (.returnItem p tag (bytesOf 5 0xFFFFFFFFFF)) s = .next (s.withReply p tag .returnItem .noItem {} [])) ∧
    ∀ r rest, (s.desk d).ctx.queue = r :: rest → r.kind = .borrower →
      (s.control.part = .open →
        exec (.checkout p tag (bytesOf 5 v ++ bytesOf 5 0xFFFFFFFFFF ++ [if o = true then 1 else 0])) s =
          .next ((s.withoutOldest d r rest).withReply p tag .checkout .wrongKind {} [.raw r.bytes]) ∧
        exec (.renew p tag (bytesOf 5 v ++ bytesOf 5 0xFFFFFFFFFF ++ [if o = true then 1 else 0])) s =
          .next ((s.withoutOldest d r rest).withReply p tag .renew .wrongKind {} [.raw r.bytes])) ∧
      exec (.returnItem p tag (bytesOf 5 0xFFFFFFFFFF)) s =
        .next ((s.withoutOldest d r rest).withReply p tag .returnItem .wrongKind {} [.raw r.bytes])

/-- R133, R140 to R142, R144: a download accepted while the engine serves waits there as a burst at its start, or, for
POLICY_LOAD, with the whole contents of its section, values past their ranges included: from the Console port the desk
terms and the calendar alone. A POLICY_LOAD is refused for its section (BAD_FIELD, or NOT_PERMITTED at the Console), an
undefined enumerated value, a class range count above 16 or an item number out of range (BAD_FIELD). The NIGHT-only
downloads are accepted in NIGHT and refused NOT_IN_NIGHT in OPEN and CLOSING. A record count outside its range, and a
table that the request does not take, are BAD_FIELD. At the grant of a first step the part state is checked again, then
the healths: TABLE_SUSPECT names the first SUSPECT of the borrower and loan maps. (The tables are numbered BORROWERS 0,
LOANS 1, ITEMS 2, POLICY 3, an on/off setting ON 0 and OFF 1: log 16. The order of the section's refusals: log 18.) (A
refusal carries only the values its rule names: log 27.) -/
def Obligations.DownloadsWait : Prop :=
  (∀ (p : Port) (tag : Byte) (c : SectionContents) (s : State),
    s.takes p → s.engine.serving.isSome = true → p ≠ .kiosk →
    (p = .console → c.name = .deskTerms ∨ c.name = .calendar) → c.fits = true → c.wellSized = true →
    exec (.policyLoad p tag (bytesOf 1 c.name.ctorIdx ++ c.bytes)) s =
      .next (s.withWaiting p tag .policyLoad (.policyLoad c) none)) ∧
  (∀ (p : Port) (tag : Byte) (k : Nat) (c : List Byte) (num : Nat → Nat → Nat) (undefinedTerms : Nat → Prop) (s : State),
    s.takes p → p ≠ .kiosk → k ≤ 255 → lengthAgrees .policyLoad (bytesOf 1 k ++ c) = true →
    (num = fun off len => valueOf ((c.drop off).take len)) →
    (undefinedTerms = fun off =>
      3 < num off 1 ∨ 1 < num (off + 3) 1 ∨ 1 < num (off + 4) 1 ∨ 1 < num (off + 7) 1) →
    (5 < k → exec (.policyLoad p tag (bytesOf 1 k ++ c)) s = .next (s.withReply p tag .policyLoad .badField {} [])) ∧
    (k ≤ 5 → k ≠ 3 → k ≠ 4 → p = .console →
      exec (.policyLoad p tag (bytesOf 1 k ++ c)) s = .next (s.withReply p tag .policyLoad .notPermitted {} [])) ∧
    (k = 3 → (undefinedTerms 0 ∨ undefinedTerms (12 + num 11 1)) →
      exec (.policyLoad p tag (bytesOf 1 k ++ c)) s = .next (s.withReply p tag .policyLoad .badField {} [])) ∧
    (k = 5 → p = .uplink →
      (16 < num 0 1 ∨ ∃ j, j < num 0 1 ∧ (9999999999 < num (1 + 11 * j) 5 ∨ 9999999999 < num (6 + 11 * j) 5)) →
      exec (.policyLoad p tag (bytesOf 1 k ++ c)) s = .next (s.withReply p tag .policyLoad .badField {} []))) ∧
  (∀ (tag : Byte) (n : Nat) (records : List Byte) (s : State),
    s.takes .uplink → s.engine.serving.isSome = true →
    (1 ≤ n → n ≤ 32 → records.length = n * 24 →
      exec (.borrowerLoad .uplink tag (bytesOf 1 n ++ records)) s =
        .next (s.withWaiting .uplink tag .borrowerLoad
          (.borrowerLoad ((recordBytes 24 n records).map borrowerLoadRecord) []) none)) ∧
    (1 ≤ n → n ≤ 32 → records.length = n * 13 →
      exec (.itemFlagsLoad .uplink tag (bytesOf 1 n ++ records)) s =
        .next (s.withWaiting .uplink tag .itemFlagsLoad
          (.itemFlagsLoad ((recordBytes 13 n records).map itemLoadRecord) []) none)) ∧
    (s.control.part = .night →
      (1 ≤ n → n ≤ 24 → records.length = n * 28 →
        exec (.loanLoad .uplink tag (bytesOf 1 n ++ records)) s =
          .next (s.withWaiting .uplink tag .loanLoad
            (.loanLoad ((recordBytes 28 n records).map loanLoadRecord) []) none)) ∧
      exec (.markAll .uplink tag []) s = .next (s.withWaiting .uplink tag .markAll (.markAll 0 0) none) ∧
      exec (.purgeMarked .uplink tag []) s =
        .next (s.withWaiting .uplink tag .purgeMarked (.purgeMarked 0 0 0) none) ∧
      exec (.tableClear .uplink tag [1]) s =
        .next (s.withWaiting .uplink tag .tableClear (.clearLoans 1 0 0 0) none) ∧
      exec (.tableClear .uplink tag [2]) s = .next (s.withWaiting .uplink tag .tableClear (.clearItems 0 0) none) ∧
      exec (.tableRebuild .uplink tag [0]) s =
        .next (s.withWaiting .uplink tag .tableRebuild (.rebuildBorrowers 1 0 0 0 0) none))) ∧
  (∀ (tag : Byte) (n : Nat) (table : Byte) (records : List Byte) (s : State), s.takes .uplink →
    (∀ code payload, code ∈ [.loanLoad, .markAll, .purgeMarked, .tableClear, .tableRebuild] →
      lengthAgrees code payload = true → s.control.part ≠ .night →
      exec (requestCommand code .uplink tag payload) s = .next (s.withReply .uplink tag code .notInNight {} [])) ∧
    (n = 0 ∨ 32 < n → n ≤ 255 →
      (records.length = n * 24 →
        exec (.borrowerLoad .uplink tag (bytesOf 1 n ++ records)) s =
          .next (s.withReply .uplink tag .borrowerLoad .badField {} [])) ∧
      (records.length = n * 13 →
        exec (.itemFlagsLoad .uplink tag (bytesOf 1 n ++ records)) s =
          .next (s.withReply .uplink tag .itemFlagsLoad .badField {} []))) ∧
    (s.control.part = .night →
      (n = 0 ∨ 24 < n → n ≤ 255 → records.length = n * 28 →
        exec (.loanLoad .uplink tag (bytesOf 1 n ++ records)) s =
          .next (s.withReply .uplink tag .loanLoad .badField {} [])) ∧
      (table ≠ 1 → table ≠ 2 →
        exec (.tableClear .uplink tag [table]) s = .next (s.withReply .uplink tag .tableClear .badField {} [])) ∧
      (table ≠ 0 →
        exec (.tableRebuild .uplink tag [table]) s =
          .next (s.withReply .uplink tag .tableRebuild .badField {} [])))) ∧
  ∀ (p : Port) (op : EngineOp) (s : State),
    ((∃ todo done, op = .borrowerLoad todo done) ∨ (∃ todo done, op = .itemFlagsLoad todo done) ∨
      (∃ c, op = .policyLoad c) → s.grantCheck p op = .serve .plain) ∧
    ((∃ cursor marked, op = .markAll cursor marked) →
      s.grantCheck p op =
        if s.control.part ≠ .night then .refuse .notInNight []
        else if s.borrowers.health = .suspect then .refuse .tableSuspect [.small 0]
        else .serve .plain) ∧
    ((∃ todo done, op = .loanLoad todo done) ∨ (∃ cursor m n, op = .purgeMarked cursor m n) →
      s.grantCheck p op =
        if s.control.part ≠ .night then .refuse .notInNight []
        else if s.borrowers.health = .suspect then .refuse .tableSuspect [.small 0]
        else if s.loans.health = .suspect then .refuse .tableSuspect [.small 1]
        else .serve .plain) ∧
    ((∃ phase cursor m n, op = .clearLoans phase cursor m n) ∨ (∃ cursor n, op = .clearItems cursor n) ∨
        (∃ phase cursor l m n, op = .rebuildBorrowers phase cursor l m n) →
      s.grantCheck p op = if s.control.part ≠ .night then .refuse .notInNight [] else .serve .plain)

/-! ## Printers -/

/-- R117: PRINTER_RESUME on a printer that is not STALLED replies with its state and changes nothing else; on a STALLED
one it enters NO_PAPER with paper-out asserted, and otherwise restarts the head slip from its first character, with
PRINTER_STATE. (PRINTING is reported, though it passes at once to WAITING: the model's choice, log 10.) -/
def Obligations.PrinterResumeRestartsTheSlip : Prop :=
  ∀ (p : Port) (d : Desk) (tag : Byte) (s : State), s.takes p → portDesk p = some d →
    s.Settled →
    ((s.desk d).spooler.state ≠ .stalled →
      exec (.printerResume p tag []) s =
        .next (s.withReply p tag .printerResume .ok {}
          [.small (s.desk d).spooler.state.ctorIdx, .small (s.desk d).spooler.spool.length])) ∧
    ((s.desk d).spooler.state = .stalled → (s.desk d).lines.paperOut = true →
      exec (.printerResume p tag []) s =
        .next (((s.modDesk d fun x =>
          { x with
            spooler :=
              { x.spooler with state := .noPaper, strobed := false, waitTimer := none, gapTimer := none } }).notify p
            (.printerState .noPaper (s.desk d).spooler.spool.length)).withReply p tag .printerResume .ok {}
            [.small PrinterState.noPaper.ctorIdx, .small (s.desk d).spooler.spool.length])) ∧
    ∀ x rest, (s.desk d).spooler.state = .stalled → (s.desk d).lines.paperOut = false →
      (s.desk d).spooler.spool = x :: rest →
      ∃ t, exec (.printerResume p tag []) s = .next t ∧ s.sameInner t ∧ t.shares = s.shares ∧
        (t.desk d).ctx = (s.desk d).ctx ∧ (t.desk d).wand = (s.desk d).wand ∧
        (t.desk d).spooler.spool = (s.desk d).spooler.spool ∧ (t.desk d).spooler.state = .waiting ∧
        (t.desk d).spooler.text = x.render s.policy.data ∧ (t.desk d).spooler.posLine = 0 ∧
        (t.desk d).spooler.posChar = 0 ∧ (t.desk d).spooler.strobed = !(s.desk d).lines.busy ∧
        (t.desk d).spooler.waitTimer = some ((s.terms d).waitLimit * 16) ∧ (t.desk d).lines.busy = true ∧
        (∀ e, e ≠ d → t.desk e = s.desk e) ∧ (∀ q, q ≠ p → t.port q = s.port q) ∧
        (t.port p).notices =
          ((s.port p).place (.printerState .printing (s.desk d).spooler.spool.length)).notices ∧
        (t.port p).outQ =
          (s.port p).outQ ++
            [{ tag
               code := .ok
               request := ReqCode.printerResume.byte
               flags := {}
               results := [.small PrinterState.printing.ctorIdx, .small (s.desk d).spooler.spool.length]
               isReply := true }]

/-- R113 to R115: the handshake of a slip's printing. Busy released on a held character strobes it: it stands on the
data lines, busy is held, and the wait timer starts at the wait limit times 16 ms. Busy released after a strobe takes
the character: the print position advances and the next character follows at once, or, after the cut code, the slip
leaves the spool and the 300 ms gap starts. The wait timer's expiry makes the printer STALLED, its position kept, with
PRINTER_STATE. A gap ends in IDLE on an empty spool, which may end the closing drain (R118), and at the head slip's
first character on another. All of this with paper-out released. With paper-out asserted busy's release still strobes a
held character, for paper-out is acted on at the end of the wait (log 10). The taking of a character, with the position
moved past it, and the wait timer's expiry and the end of the gap, with the position kept, put the printer in NO_PAPER
with PRINTER_STATE (R117). (Busy is asserted at the strobe: log 11.) -/
def Obligations.PrintersHandshake : Prop :=
  (∀ (d : Desk) (s : State), (s.desk d).lines.paperOut = false →
    ((s.desk d).lines.busy = true → (s.desk d).spooler.state = .waiting → (s.desk d).spooler.strobed = false →
      exec (.busyRelease d) s =
        .next (s.modDesk d fun x =>
          { x with
            spooler :=
              { x.spooler with
                strobed := true
                waitTimer := some ((s.terms d).waitLimit * 16)
                gapTimer := none
                dataLines := some (charAt x.spooler.text x.spooler.posLine x.spooler.posChar) } })) ∧
    (∀ line, (s.desk d).lines.busy = true → (s.desk d).spooler.state = .waiting →
      (s.desk d).spooler.strobed = true → (s.desk d).spooler.text[(s.desk d).spooler.posLine]? = some line →
      exec (.busyRelease d) s =
        .next (s.modDesk d fun x =>
          let next := if x.spooler.posChar < line.length then (x.spooler.posLine, x.spooler.posChar + 1)
            else (x.spooler.posLine + 1, 0)
          { x with
            spooler :=
              { x.spooler with
                posLine := next.1
                posChar := next.2
                waitTimer := some ((s.terms d).waitLimit * 16)
                gapTimer := none
                dataLines := some (charAt x.spooler.text next.1 next.2) } })) ∧
    ((s.desk d).lines.busy = true → (s.desk d).spooler.state = .waiting → (s.desk d).spooler.strobed = true →
      (s.desk d).spooler.text.length ≤ (s.desk d).spooler.posLine →
      ∃ t, exec (.busyRelease d) s = .next t ∧ s.sameInner t ∧
        (t.desk d).spooler.spool = (s.desk d).spooler.spool.drop 1 ∧ (t.desk d).spooler.state = .gap ∧
        (t.desk d).spooler.gapTimer = some 300 ∧ (t.desk d).spooler.waitTimer = none ∧
        (t.desk d).lines = { (s.desk d).lines with busy := false } ∧ (t.desk d).ctx = (s.desk d).ctx ∧
        (∀ e, e ≠ d → t.desk e = s.desk e) ∧ (∀ p, t.port p = s.port p) ∧ t.shares = s.shares) ∧
    ((s.desk d).spooler.state = .waiting → (s.desk d).spooler.waitTimer.isSome = true →
      exec (.waitTimerExpiry d) s =
        .next ((s.modDesk d fun x =>
          { x with
            spooler :=
              { x.spooler with state := .stalled, strobed := false, waitTimer := none, gapTimer := none } }).notify
            (deskPort d) (.printerState .stalled (s.desk d).spooler.spool.length))) ∧
    ((s.desk d).spooler.state = .gap → (s.desk d).spooler.spool = [] →
      exec (.gapEnd d) s =
        .next (s.modDesk d fun x =>
          { x with
            spooler :=
              { x.spooler with
                state := .idle
                text := []
                posLine := 0
                posChar := 0
                strobed := false
                waitTimer := none
                gapTimer := none } }).settle) ∧
    ∀ x rest, (s.desk d).spooler.state = .gap → (s.desk d).spooler.spool = x :: rest → s.Settled →
      ∃ t, exec (.gapEnd d) s = .next t ∧ s.sameInner t ∧ (t.desk d).spooler.spool = (s.desk d).spooler.spool ∧
        (t.desk d).spooler.gapTimer = none ∧ (t.desk d).spooler.posLine = 0 ∧ (t.desk d).spooler.posChar = 0 ∧
        (t.desk d).spooler.state = .waiting ∧ (t.desk d).spooler.text = x.render s.policy.data ∧
        (t.desk d).ctx = (s.desk d).ctx ∧ (t.desk d).wand = (s.desk d).wand ∧
        (∀ e, e ≠ d → t.desk e = s.desk e) ∧ (∀ p, t.port p = s.port p) ∧ t.shares = s.shares) ∧
  ∀ (d : Desk) (s : State), (s.desk d).lines.paperOut = true →
    ((s.desk d).lines.busy = true → (s.desk d).spooler.state = .waiting → (s.desk d).spooler.strobed = false →
      exec (.busyRelease d) s =
        .next (s.modDesk d fun x =>
          { x with
            spooler :=
              { x.spooler with
                strobed := true
                waitTimer := some ((s.terms d).waitLimit * 16)
                gapTimer := none
                dataLines := some (charAt x.spooler.text x.spooler.posLine x.spooler.posChar) } })) ∧
    ((s.desk d).lines.busy = true → (s.desk d).spooler.state = .waiting → (s.desk d).spooler.strobed = true →
      exec (.busyRelease d) s =
        .next ((s.modDesk d fun x =>
          let next := match x.spooler.text[x.spooler.posLine]? with
            | some line =>
              if x.spooler.posChar < line.length then (x.spooler.posLine, x.spooler.posChar + 1)
              else (x.spooler.posLine + 1, 0)
            | none => (x.spooler.posLine, x.spooler.posChar)
          { x with
            lines := { x.lines with busy := false }
            spooler :=
              { x.spooler with
                posLine := next.1
                posChar := next.2
                state := .noPaper
                strobed := false
                waitTimer := none
                gapTimer := none } }).notify (deskPort d) (.printerState .noPaper (s.desk d).spooler.spool.length))) ∧
    (((s.desk d).spooler.state = .waiting → (s.desk d).spooler.waitTimer.isSome = true →
      exec (.waitTimerExpiry d) s =
        .next ((s.modDesk d fun x =>
          { x with
            spooler :=
              { x.spooler with state := .noPaper, strobed := false, waitTimer := none, gapTimer := none } }).notify
            (deskPort d) (.printerState .noPaper (s.desk d).spooler.spool.length))) ∧
    ((s.desk d).spooler.state = .gap → s.Settled →
      exec (.gapEnd d) s =
        .next ((s.modDesk d fun x =>
          { x with
            spooler :=
              { x.spooler with state := .noPaper, strobed := false, waitTimer := none, gapTimer := none } }).notify
            (deskPort d) (.printerState .noPaper (s.desk d).spooler.spool.length))))

/-- R117: paper-out asserting puts an IDLE printer in NO_PAPER at once, with PRINTER_STATE and the spool's depth, and is
only noted by a WAITING printer, one in GAP, one STALLED or one OFF. Its release in NO_PAPER restarts the head slip from
its first character, or leaves an empty spool's printer IDLE, which may end the closing drain (R118), with PRINTER_STATE;
in the other states it is only noted. -/
def Obligations.PaperOutStopsThePrinter : Prop :=
  ∀ (d : Desk) (s : State),
    ((s.desk d).lines.paperOut = false →
      exec (.paperOutAssert d) s =
        .next (
          if (s.desk d).spooler.state = .idle ∨ (s.desk d).spooler.state = .printing then
            (s.modDesk d fun x =>
              { x with
                lines := { x.lines with paperOut := true }
                spooler :=
                  { x.spooler with state := .noPaper, strobed := false, waitTimer := none, gapTimer := none } }).notify
              (deskPort d) (.printerState .noPaper (s.desk d).spooler.spool.length)
          else s.modDesk d fun x => { x with lines := { x.lines with paperOut := true } })) ∧
    ((s.desk d).lines.paperOut = true → (s.desk d).spooler.state ≠ .noPaper →
      exec (.paperOutRelease d) s =
        .next (s.modDesk d fun x => { x with lines := { x.lines with paperOut := false } })) ∧
    ((s.desk d).lines.paperOut = true → (s.desk d).spooler.state = .noPaper → (s.desk d).spooler.spool = [] →
      exec (.paperOutRelease d) s =
        .next ((s.modDesk d fun x =>
          { x with
            lines := { x.lines with paperOut := false }
            spooler :=
              { x.spooler with
                state := .idle
                text := []
                posLine := 0
                posChar := 0
                strobed := false
                waitTimer := none
                gapTimer := none } }).notify (deskPort d) (.printerState .idle 0)).settle) ∧
    ∀ x rest, (s.desk d).lines.paperOut = true → (s.desk d).spooler.state = .noPaper →
      (s.desk d).spooler.spool = x :: rest → s.Settled →
      ∃ t, exec (.paperOutRelease d) s = .next t ∧ s.sameInner t ∧ (t.desk d).lines.paperOut = false ∧
        (t.desk d).spooler.spool = (s.desk d).spooler.spool ∧ (t.desk d).spooler.posLine = 0 ∧
        (t.desk d).spooler.posChar = 0 ∧ (t.desk d).spooler.state = .waiting ∧
        (t.desk d).spooler.text = x.render s.policy.data ∧
        t.port (deskPort d) = (s.port (deskPort d)).place (.printerState .printing (rest.length + 1)) ∧
        (t.desk d).ctx = (s.desk d).ctx ∧ (t.desk d).wand = (s.desk d).wand ∧
        (∀ e, e ≠ d → t.desk e = s.desk e) ∧ (∀ p, p ≠ deskPort d → t.port p = s.port p) ∧ t.shares = s.shares

/-! ## The journal requests -/

/-- R127, R129, R130: JOURNAL_ARM sets the window and takes the read cursor to the head, as JOURNAL_REWIND does with the
window kept. JOURNAL_FETCH delivers the smaller of its count, the window and the undelivered entries, and moves the
cursor past them; the copy of each, in R167's layout, has its position as its sequence, the entry's fields and stored
check, and the flag DAMAGED where the check computed afresh, over the sequence the entry holds, differs (R128).
JOURNAL_RELEASE of a delivered entry removes every entry up to it, and places JOURNAL_LEVEL at the Console and Uplink
ports where the level of R125 changes; of a sequence behind the head, by up to 2^31, it removes nothing and is OK; of
any other it is BAD_FIELD, as are counts out of range (R126). Each replies with the journal's state after it, first, and
then its own results (that order: log 15; the number removed in 4 bytes: log 14), and the part's tables and records
stay. (A refusal carries the journal's block too: log 27.) -/
def Obligations.JournalRequestsMoveTheCursor : Prop :=
  ∀ (tag : Byte) (s : State), s.takes .uplink →
    (∀ n, 1 ≤ n → n ≤ 3072 →
      exec (.journalArm .uplink tag (bytesOf 4 n)) s =
        .next ({ s with journal := { s.journal with window := n, cursor := s.journal.head } }.withReply .uplink tag
          .journalArm .ok {} { s.journal with window := n, cursor := s.journal.head }.fields)) ∧
    exec (.journalRewind .uplink tag []) s =
      .next ({ s with journal := { s.journal with cursor := s.journal.head } }.withReply .uplink tag .journalRewind .ok
        {} { s.journal with cursor := s.journal.head }.fields) ∧
    (s.journal.window = 0 → ∀ k, 1 ≤ k → k ≤ 24 →
      exec (.journalFetch .uplink tag (bytesOf 1 k)) s =
        .next (s.withReply .uplink tag .journalFetch .notArmed {} s.journal.fields)) ∧
    (∀ k n j, 1 ≤ k → k ≤ 24 → s.journal.entries.length = s.journal.occupancy →
      s.journal.delivered ≤ s.journal.occupancy → 0 < s.journal.window →
      n = min (min k s.journal.window) (s.journal.entries.length - s.journal.delivered) →
      j = { s.journal with cursor := s.journal.cursor + BitVec.ofNat 32 n, window := s.journal.window - n } →
      exec (.journalFetch .uplink tag (bytesOf 1 k)) s =
        .next (
          let t := { s with journal := j }.withReply .uplink tag .journalFetch .ok {}
            (j.fields ++ ((s.journal.entries.drop s.journal.delivered).take n).mapIdx fun i (e : JournalEntry) =>
              Field.raw (e.delivered (s.journal.cursor + BitVec.ofNat 32 i)))
          if j.window = 0 then t.notify .uplink (.uploadDone (j.cursor - 1) j.occupancy) else t)) ∧
    (∀ (e : JournalEntry) (position : Seq) (f : EntryDraft), f = e.fields →
      e.delivered position =
        bytesOf 4 position.toNat ++ bytesOf 1 f.kind.ctorIdx ++ bytesOf 1 f.source.ctorIdx ++ bytesOf 2 f.day ++
          bytesOf 4 f.time ++
          bytesOf 1
            ((if f.flags.override = true then 1 else 0) + (if f.flags.isImplicit = true then 2 else 0) +
              (if f.flags.saturated = true then 4 else 0) + (if f.flags.holdFilled = true then 8 else 0) +
              if entryCheck f e.sequence = e.check then 0 else 16) ++
          bytesOf 1
            ((if f.borrower.isSome = true then 1 else 0) + (if f.item.isSome = true then 2 else 0) +
              (if f.dueDay.isSome = true then 4 else 0) + if f.amount.isSome = true then 8 else 0) ++
          bytesOf 5 (f.borrower.getD 0) ++ bytesOf 5 (f.item.getD 0) ++ bytesOf 2 (f.dueDay.getD 0) ++
          bytesOf 4 (f.amount.getD 0) ++ bytesOf 2 e.check.toNat) ∧
    (∀ n, n = 0 ∨ 3072 < n → n < 4294967296 →
      exec (.journalArm .uplink tag (bytesOf 4 n)) s =
        .next (s.withReply .uplink tag .journalArm .badField {} s.journal.fields)) ∧
    (∀ k, k = 0 ∨ 24 < k → k ≤ 255 →
      exec (.journalFetch .uplink tag (bytesOf 1 k)) s =
        .next (s.withReply .uplink tag .journalFetch .badField {} s.journal.fields)) ∧
    (∀ q : Seq, s.journal.delivered ≤ (q - s.journal.head).toNat →
      exec (.journalRelease .uplink tag (bytesOf 4 q.toNat)) s =
        .next (s.withReply .uplink tag .journalRelease
          (if 1 ≤ (s.journal.head - q).toNat ∧ (s.journal.head - q).toNat ≤ 2147483648 then .ok else .badField) {}
          (s.journal.fields ++ [.count 0]))) ∧
    (∀ n, levelOf n =
      if n < 1536 then .calm else if n < 2304 then .prompt else if n < 2944 then .pressed
      else if n < 3072 then .critical else .full) ∧
    ∀ (k : Nat) (e : JournalEntry), s.journal.Lawful → k < s.journal.delivered → s.journal.entries[k]? = some e →
      ∃ t, exec (.journalRelease .uplink tag (bytesOf 4 e.sequence.toNat)) s = .next t ∧
        t.journal.entries = s.journal.entries.drop (k + 1) ∧ t.journal.head = e.sequence + 1 ∧
        t.journal.cursor = s.journal.cursor ∧ t.journal.tail = s.journal.tail ∧
        t.journal.window = s.journal.window ∧ SameTables s t ∧ t.control = s.control ∧
        (s.sweep.state = .stalled → t.journal.occupancy < 2304 → t.sweep.state ≠ .stalled) ∧
        (s.sweep.state = .stalled → t.journal.occupancy < 2304 → s.engine.serving.isSome = true →
          t.sweep = { s.sweep with state := .requesting } ∧
          t.engine = { s.engine with waiting := { s.engine.waiting with sweep := true } }) ∧
        t.journal.occupancy = s.journal.occupancy - (k + 1) ∧
        (s.engine.serving.isSome = true → ∀ q, (t.port q).notices =
          if q = .kiosk ∨ levelOf t.journal.occupancy = levelOf s.journal.occupancy then (s.port q).notices
          else ((s.port q).place (.journalLevel (levelOf t.journal.occupancy) t.journal.occupancy)).notices) ∧
        (t.port .uplink).outQ =
          (s.port .uplink).outQ ++
            [{ tag
               code := .ok
               request := ReqCode.journalRelease.byte
               flags := {}
               results := t.journal.fields ++ [.count (k + 1)]
               isReply := true }]

/-! ## The clock and the desk hours -/

/-- R53, R54, R98, R124, R149: DATE_SET. A time of day above 86,399 is refused BAD_FIELD. A day before today is refused
DATE_BACKWARD and one past today + 400 or 65,535 DATE_RANGE, unless the date is unset. Otherwise today and the time of
day take the given values; a change of day places DAY_ROLLED at the three ports (alone, where the part does not change
with it) and starts a sweep pass, or marks the running one for a repeat; the DATE_SET entry waits for the engine, or is
counted lost behind four others; and the desk hours open a part in NIGHT or close one in OPEN. As the engine becomes
FREE (here at the end of a BORROWER_QUERY in OPEN) the waiting entries are appended oldest first while the occupancy is
below 2,944, and the rest are counted lost in both copies, saturating at 65,535; an entry that brings the occupancy to
1,536, 2,304 or 2,944 places JOURNAL_LEVEL at the Console and Uplink ports (R125), and at 2,304 a sweep that waits past
its first batch stalls (R100). (A refusal carries only the values its rule names: log 27. The order at a FREE engine:
log 12.) -/
def Obligations.DateSetTakesTheDate : Prop :=
  (∀ (p : Port) (tag : Byte) (day time : Nat) (s : State),
    p ≠ .kiosk → s.takes p → day ≤ 65535 → 86399 < time → time < 4294967296 →
    exec (.dateSet p tag (bytesOf 2 day ++ bytesOf 4 time)) s = .next (s.withReply p tag .dateSet .badField {} [])) ∧
  (∀ (p : Port) (tag : Byte) (day time : Nat) (s : State),
    p ≠ .kiosk → s.takes p → day ≤ 65535 → time ≤ 86399 →
    (s.clock.dateUnset = false → day < s.clock.today →
      exec (.dateSet p tag (bytesOf 2 day ++ bytesOf 4 time)) s =
        .next (s.withReply p tag .dateSet .dateBackward {} [])) ∧
    (s.clock.dateUnset = false → s.clock.today ≤ day → min (s.clock.today + 400) 65535 < day →
      exec (.dateSet p tag (bytesOf 2 day ++ bytesOf 4 time)) s = .next (s.withReply p tag .dateSet .dateRange {} [])) ∧
    (s.engine.serving.isSome = true →
      (s.clock.dateUnset = true ∨ (s.clock.today ≤ day ∧ day ≤ min (s.clock.today + 400) 65535)) →
      ∃ t, exec (.dateSet p tag (bytesOf 2 day ++ bytesOf 4 time)) s = .next t ∧
        t.clock.today = day ∧ t.clock.time = time ∧ t.clock.dateUnset = false ∧
        ((s.clock.dateUnset = true ∨ s.clock.today ≠ day) → s.sweep.state = .idle →
          t.sweep = { state := .requesting, cursor := 0, firstBatch := true } ∧ t.engine.waiting.sweep = true) ∧
        ((s.clock.dateUnset = true ∨ s.clock.today ≠ day) → s.sweep.state ≠ .idle →
          t.sweep = s.sweep ∧ t.clock.sweepRepeat = true) ∧
        (t.control.part = s.control.part → ∀ q, (t.port q).notices =
          if s.clock.dateUnset = true ∨ s.clock.today ≠ day then ((s.port q).place (.dayRolled day)).notices
          else (s.port q).notices) ∧
        (s.clock.dateUnset = false → s.clock.today = day → s.clock.sweepPending = false →
          t.sweep = s.sweep ∧ t.clock.sweepRepeat = s.clock.sweepRepeat ∧ t.engine = s.engine) ∧
        (s.journal.waitingDates.length < 4 →
          t.journal = { s.journal with waitingDates := s.journal.waitingDates ++ [{ day, time }] } ∧
          t.shares.dateEntryConsole = s.shares.dateEntryConsole ∧
          t.shares.dateEntryUplink = s.shares.dateEntryUplink) ∧
        (4 ≤ s.journal.waitingDates.length → t.journal = s.journal ∧
          t.shares.dateEntryConsole = min (s.shares.dateEntryConsole + 1) 65535 ∧
          t.shares.dateEntryUplink = min (s.shares.dateEntryUplink + 1) 65535) ∧
        (s.control.part = .closing → t.control.part = .closing) ∧
        (s.control.part = .night → t.control.part =
          if s.policy.data.calendar.isOpen day = true ∧ s.policy.data.desks.opening ≤ time ∧
            time < s.policy.data.desks.closing then .open else .night) ∧
        (s.control.part = .open → (t.control.part = .open ↔
          s.policy.data.calendar.isOpen day = true ∧ s.policy.data.desks.opening ≤ time ∧
            time < s.policy.data.desks.closing)) ∧
        t.policy = s.policy ∧ t.borrowers = s.borrowers ∧ t.loans = s.loans ∧ t.loanLists = s.loanLists ∧
        t.items = s.items ∧ t.scrub = s.scrub ∧
        (t.port p).outQ =
          (s.port p).outQ ++
            [{ tag
               code := .ok
               request := ReqCode.dateSet.byte
               flags := {}
               results := [.day day, .time time]
               isReply := true }])) ∧
  ∀ (v : Serving) (p : Port) (b k : Nat) (s : State),
    s.served = some (v, p, .borrowerQuery b) → s.control.part = .open → s.journal.Lawful →
    k = min s.journal.waitingDates.length (2944 - s.journal.occupancy) →
    ∃ t, exec .borrowerQueryEnd s = .next t ∧ SameTables s t ∧
      t.journal =
        { s.journal.after ((s.journal.waitingDates.take k).map fun e =>
            { kind := .dateSet, day := e.day, time := e.time, source := .clock }) with waitingDates := [] } ∧
      t.shares =
        (if k = s.journal.waitingDates.length then s.shares
        else
          { s.shares with
            dateEntryConsole := min (s.shares.dateEntryConsole + (s.journal.waitingDates.length - k)) 65535
            dateEntryUplink := min (s.shares.dateEntryUplink + (s.journal.waitingDates.length - k)) 65535 }) ∧
      (∀ m, m ∈ [1536, 2304, 2944] → s.journal.occupancy < m → m ≤ s.journal.occupancy + k → ∀ q,
        (t.port q).notices =
          if q = .kiosk then (s.port q).notices else ((s.port q).place (.journalLevel (levelOf m) m)).notices) ∧
      ((∀ m, m ∈ [1536, 2304, 2944] → s.journal.occupancy < m → s.journal.occupancy + k < m) →
        ∀ q, (t.port q).notices = (s.port q).notices) ∧
      (s.sweep.state = .requesting → s.sweep.firstBatch = false → 1 ≤ k → 2304 ≤ s.journal.occupancy + k →
        t.sweep = { s.sweep with state := .stalled } ∧ t.engine.waiting.sweep = false) ∧
      (s.sweep.state ≠ .requesting ∨ s.sweep.firstBatch = true ∨ k = 0 ∨ s.journal.occupancy + k < 2304 →
        (t.sweep = s.sweep ∨ (s.engine.waiting.sweep = true ∧ t.sweep = { s.sweep with state := .served })))

/-- R147, R148, R150, R4, R13, R23, R117, R119: DESK_OPEN and NIGHT_LEAVE enter OPEN from NIGHT, with the wands by R11,
the printers IDLE or in NO_PAPER, and PART_STATE; they change nothing in OPEN and are refused DESK_CLOSING in CLOSING.
DESK_CLOSE and NIGHT_ENTER begin CLOSING from OPEN: both desks cut and unbind and the 60 s drain timer starts; with
nothing to print, both printers IDLE and no desk request the part goes on to NIGHT at once, and with a desk request
alone the drain ends and the part stays in CLOSING. At a desk's port stand SLIP_LOST where the cut found a full spool,
BORROWER_UNBOUND with cause CLOSING, and PART_STATE, of NIGHT too where the part goes on; at the Uplink port PART_STATE.
The reply gives the part state reached. A scan is abandoned where its wand leaves Active, and kept in CLOSING. They
change nothing in CLOSING and NIGHT. (A refusal carries only the values its rule names: log 27.) -/
def Obligations.RequestsOpenAndCloseTheDesk : Prop :=
  ∀ (p : Port) (opens closes : ReqCode) (tag : Byte) (s : State),
    (p, opens, closes) = (.console, .deskOpen, .deskClose) ∨ (p, opens, closes) = (.uplink, .nightLeave, .nightEnter) →
    s.takes p →
    (s.control.part = .open →
      exec (requestCommand opens p tag []) s =
        .next (s.withReply p tag opens .ok {} [.small PartState.open.ctorIdx])) ∧
    (s.control.part = .closing →
      exec (requestCommand opens p tag []) s = .next (s.withReply p tag opens .deskClosing {} []) ∧
      exec (requestCommand closes p tag []) s =
        .next (s.withReply p tag closes .ok {} [.small PartState.closing.ctorIdx])) ∧
    (s.control.part = .night →
      exec (requestCommand closes p tag []) s =
        .next (s.withReply p tag closes .ok {} [.small PartState.night.ctorIdx])) ∧
    (s.control.part = .night →
      ∃ t, exec (requestCommand opens p tag []) s = .next t ∧ SameTables s t ∧
        t.control = { s.control with part := .open } ∧ t.engine = s.engine ∧ t.journal = s.journal ∧
        t.sweep = s.sweep ∧ t.scrub = s.scrub ∧ t.shares = s.shares ∧
        (∀ d, (t.desk d).ctx = (s.desk d).ctx ∧ (t.desk d).lines = (s.desk d).lines ∧
          (t.desk d).wand.state =
            wandStateBy .open (s.terms d).wandMode (s.desk d).ctx.presence (s.desk d).wand.hold.isSome ∧
          (t.desk d).spooler.state = (if (s.desk d).lines.paperOut = true then .noPaper else .idle) ∧
          (t.desk d).spooler.spool = (s.desk d).spooler.spool) ∧
        (∀ q, (s.port q).notices.length < 7 → (t.port q).notices.getLast? = some (.partState .open)) ∧
        s.OpensInto t ∧
        (t.port p).outQ =
          (s.port p).outQ ++
            [{ tag
               code := .ok
               request := opens.byte
               flags := {}
               results := [.small PartState.open.ctorIdx]
               isReply := true }]) ∧
    (s.control.part = .open →
      ∃ t, exec (requestCommand closes p tag []) s = .next t ∧ SameTables s t ∧ t.engine = s.engine ∧
        t.journal = s.journal ∧ t.sweep = s.sweep ∧ t.scrub = s.scrub ∧
        (∀ d, (t.desk d).ctx.bound = none ∧ (t.desk d).ctx.openSlip = none) ∧
        ((∃ d, (s.desk d).spooler.spool ≠ [] ∨ (s.desk d).ctx.openSlip ≠ none) →
          t.control = { s.control with part := .closing, drainTimer := some 60, drainEnded := false }) ∧
        ((∀ d, (s.desk d).spooler.spool = [] ∧ (s.desk d).ctx.openSlip = none ∧ (s.desk d).spooler.state = .idle) →
          s.deskRequest = false → s.control.openingPending = false →
          t.control.part = .night ∧ t.control.drainTimer = none ∧
          ∀ d, (t.desk d).wand.state = .off ∧ (t.desk d).spooler.state = .off ∧ (t.desk d).ctx.queue = []) ∧
        (s.control.openingPending = false → s.ClosesInto t) ∧
        (t.port p).outQ =
          (s.port p).outQ ++
            [{ tag
               code := .ok
               request := closes.byte
               flags := {}
               results := [.small t.control.part.ctorIdx]
               isReply := true }])

/-- R51, R54, R56, R98, R118, R119, R149, R150, R4, R23: the events of the clock. A rollover makes the time of day 0.
With the date set and today below 65,535 today rises by one, and while the part runs a sweep pass begins or the running
one is marked for a repeat, DAY_ROLLED is placed, and the desk hours are re-evaluated: NIGHT goes to OPEN where the new
day is open with hours from time 0, and OPEN to CLOSING where it is not so. On day 65,535 there is no re-evaluation. An
opening or closing hour of 0 has its event at a rollover (log 22). An opening event in NIGHT enters OPEN on an open day
within hours, and in CLOSING is kept for NIGHT. A closing event in OPEN begins CLOSING, where a slip or a printer that is
not IDLE keeps the drain going on, and a desk request alone the part. The drain timer's expiry empties both spools, with
SLIP_LOST (DRAIN) and every copy of the counters raised, and a printer in PRINTING, WAITING or STALLED enters IDLE (with
paper-out asserted too: log 39). With no desk request left (at the expiry, or at the end of a BORROWER_QUERY after it)
the part goes to NIGHT: open slips are cut, the spools emptied with SLIP_LOST (NIGHT), the printers and wands Off, and
PART_STATE is placed. (That a rollover begins the fraction of the second afresh is the model's choice: log 34.) -/
def Obligations.ClockEventsMoveTheDay : Prop :=
  (∀ s : State, s.clock.time = 86399 →
    (s.clock.dateUnset = true →
      exec .rollover s = .next { s with clock := { s.clock with time := 0, fraction := 0 } }) ∧
    (s.clock.dateUnset = false → s.clock.today < 65535 → s.control.part.running = false →
      exec .rollover s =
        .next { s with clock := { s.clock with today := s.clock.today + 1, time := 0, fraction := 0 } }) ∧
    (s.clock.dateUnset = false → s.clock.today < 65535 → s.control.part.running = true →
      s.engine.serving.isSome = true →
      ∃ t, exec .rollover s = .next t ∧ t.clock.today = s.clock.today + 1 ∧ t.clock.time = 0 ∧
        t.clock.dateUnset = false ∧
        (s.sweep.state = .idle →
          t.sweep = { state := .requesting, cursor := 0, firstBatch := true } ∧ t.engine.waiting.sweep = true) ∧
        (s.sweep.state ≠ .idle → t.sweep = s.sweep ∧ t.clock.sweepRepeat = true) ∧
        t.journal = s.journal ∧ t.policy = s.policy ∧ t.borrowers = s.borrowers ∧ t.loans = s.loans ∧
        t.loanLists = s.loanLists ∧ t.items = s.items ∧
        (∀ q, (s.port q).notices = [] → (t.port q).notices.head? = some (.dayRolled (s.clock.today + 1))) ∧
        ∀ (m : State) (serves : Prop), m = s.notifyAll (.dayRolled (s.clock.today + 1)) →
          (serves ↔ s.policy.data.calendar.isOpen (s.clock.today + 1) = true ∧ s.policy.data.desks.opening = 0 ∧
            0 < s.policy.data.desks.closing) →
          (s.control.part = .night → serves → t.control = { s.control with part := .open } ∧ m.OpensInto t) ∧
          (s.control.part = .open → ¬serves → s.control.openingPending = false → m.ClosesInto t) ∧
          ((s.control.part = .night ∧ ¬serves) ∨ (s.control.part = .open ∧ serves) ∨ s.control.part = .closing →
            t.control =
              { s.control with
                openingPending := s.control.openingPending ||
                  (s.control.part == .closing && decide (s.policy.data.desks.opening = 0)) } ∧
            (∀ d, t.desk d = s.desk d) ∧ (∀ q, t.port q = m.port q) ∧ t.shares = s.shares)) ∧
    (∀ w : State, s.clock.dateUnset = false → s.clock.today = 65535 →
      w = { s with clock := { s.clock with time := 0, fraction := 0 } } →
      (s.control.part = .night → s.policy.data.calendar.isOpen 65535 = true → s.policy.data.desks.opening = 0 →
        0 < s.policy.data.desks.closing →
        ∃ t, exec .rollover s = .next t ∧ t.clock = w.clock ∧ t.control = { s.control with part := .open } ∧
          w.OpensInto t) ∧
      (s.control.part = .open → s.policy.data.desks.closing = 0 →
        ∃ t, exec .rollover s = .next t ∧ t.clock = w.clock ∧ (s.control.openingPending = false → w.ClosesInto t)) ∧
      (s.control.part = .closing →
        exec .rollover s =
          .next
            { w with
              control :=
                { s.control with
                  openingPending := s.control.openingPending || decide (s.policy.data.desks.opening = 0) } }) ∧
      ((s.control.part = .night ∧ (s.policy.data.calendar.isOpen 65535 = false ∨ s.policy.data.desks.opening ≠ 0 ∨
            s.policy.data.desks.closing = 0)) ∨
          (s.control.part = .open ∧ s.policy.data.desks.closing ≠ 0) ∨ s.control.part.running = false →
        exec .rollover s = .next w)) ∧
    (s.clock.dateUnset = false → s.clock.today = 65535 → s.policy.data.desks.opening ≠ 0 →
      s.policy.data.desks.closing ≠ 0 →
      exec .rollover s = .next { s with clock := { s.clock with time := 0, fraction := 0 } })) ∧
  (∀ s : State, s.clock.dateUnset = false → s.clock.time = s.policy.data.desks.opening →
    (s.control.part = .night → s.policy.data.calendar.isOpen s.clock.today = true →
      s.clock.time < s.policy.data.desks.closing →
      ∃ t, exec .openingEvent s = .next t ∧ t.control = { s.control with part := .open } ∧ SameTables s t ∧
        t.engine = s.engine ∧ t.journal = s.journal ∧
        s.OpensInto t ∧
        ∀ d, (t.desk d).ctx = (s.desk d).ctx ∧ (t.desk d).wand.state =
          wandStateBy .open (s.terms d).wandMode (s.desk d).ctx.presence (s.desk d).wand.hold.isSome) ∧
    (s.control.part = .closing →
      exec .openingEvent s = .next { s with control := { s.control with openingPending := true } }) ∧
    (s.control.part = .night →
      (s.policy.data.calendar.isOpen s.clock.today = false ∨ s.policy.data.desks.closing ≤ s.clock.time) →
      exec .openingEvent s = .next s) ∧
    (s.control.part ≠ .night → s.control.part ≠ .closing → exec .openingEvent s = .next s)) ∧
  (∀ s : State, s.clock.dateUnset = false → s.clock.time = s.policy.data.desks.closing →
    (s.control.part = .open →
      ∃ t, exec .closingEvent s = .next t ∧ SameTables s t ∧ t.engine = s.engine ∧ t.journal = s.journal ∧
        (t.control.part = .closing ∨ t.control.part = .night) ∧
        (s.control.openingPending = false → s.ClosesInto t) ∧
        (∀ d, (t.desk d).ctx.bound = none ∧ (t.desk d).ctx.openSlip = none) ∧
        ((∃ d, (s.desk d).spooler.spool ≠ []) →
          t.control = { s.control with part := .closing, drainTimer := some 60, drainEnded := false })) ∧
    (s.control.part ≠ .open → exec .closingEvent s = .next s)) ∧
  (∀ s : State, s.control.part = .closing → s.control.drainEnded = false → s.control.drainTimer.isSome = true →
    ∃ t, exec .drainTimerExpiry s = .next t ∧ SameTables s t ∧ t.engine = s.engine ∧ t.journal = s.journal ∧
      t.control.drainTimer = none ∧ (∀ d, (t.desk d).spooler.spool = []) ∧
      (s.deskRequest = true →
        t.control.part = .closing ∧ t.control.drainEnded = true ∧ (∀ d, (t.desk d).ctx = (s.desk d).ctx) ∧
        (s.console.spooler.spool ≠ [] →
          t.shares.lostAConsole = min (s.shares.lostAConsole + s.console.spooler.spool.length) 65535) ∧
        t.shares = s.shares.lose (fun d => (s.desk d).spooler.spool.length) ∧
        (∀ d, (t.desk d).wand = (s.desk d).wand ∧ (t.desk d).lines = (s.desk d).lines ∧
          (t.desk d).spooler.state =
            if (s.desk d).spooler.spool ≠ [] ∧ (s.desk d).spooler.state ∈ [.printing, .waiting, .stalled] then .idle
            else (s.desk d).spooler.state) ∧
        ∀ p, s.PlacesAfter t p (deskNotices p fun d => discardNotices .drain (s.desk d).spooler.spool.length)) ∧
      (s.deskRequest = false → s.control.openingPending = false →
        t.control.part = .night ∧ (∀ d, (t.desk d).spooler.state = .off) ∧ s.AllNight t ∧
        t.shares =
          (s.shares.lose (fun d => (s.desk d).spooler.spool.length)).lose
            (fun d => if (s.desk d).ctx.openSlip.isSome = true then 1 else 0) ∧
        ∀ p, s.PlacesAfter t p
          (deskNotices p (fun d => discardNotices .drain (s.desk d).spooler.spool.length ++
              discardNotices .night (if (s.desk d).ctx.openSlip.isSome = true then 1 else 0)) ++
            [.partState .night]))) ∧
  ∀ (v : Serving) (p : Port) (b : Nat) (s : State), s.served = some (v, p, .borrowerQuery b) →
    s.control.part = .closing → s.control.drainEnded = true → s.control.openingPending = false →
    (∀ q, s.engine.waiting.get (portRequester q) = false) → s.journal.waitingDates = [] →
    ∃ t, exec .borrowerQueryEnd s = .next t ∧ SameTables s t ∧ t.journal = s.journal ∧ t.control.part = .night ∧
      t.control.drainTimer = none ∧ t.control.drainEnded = false ∧ s.AllNight t ∧
      t.shares = (s.shares.lose s.cutLosses).lose s.spooledAfterCut ∧
      ∀ q, s.PlacesAfter t q
        (deskNotices q (fun d => s.cutNotices d ++ discardNotices .night (s.spooledAfterCut d)) ++ [.partState .night])

/-- R118, R150: every step leaves neither the end of the closing drain nor the passage to NIGHT due. -/
def Obligations.ClosingEndsWhenItIsDue : Prop :=
  ∀ s t : State, s.Settled → step s = .next t → t.Settled

/-! ## Due days -/

/-- R58, R59: the due day of a loan made on day `t`. The period's end, no later than 65,535, is shifted forward to the
first open day, by at most 14 shifts and not past 65,535, to day `d`. Where `d` is at most the expiry day it is the due
day. Otherwise the due day is the last open day after `t` and no later than the expiry day, or `t` itself where there is
none. It lies between `t` and 65,535, no later than the expiry day or `t`. A day is open unless its weekday is closed or
it is marked in the 512 days from the calendar's base. -/
def Obligations.DueDaysAreOpenWhereTheyCanBe : Prop :=
  (∀ (c : Calendar) (t period expiry : Nat), t ≤ 65535 → expiry ≤ 65535 →
    t ≤ c.dueDay t period expiry ∧ c.dueDay t period expiry ≤ 65535 ∧
    c.dueDay t period expiry ≤ max expiry t ∧ c.dueDay t period expiry ≤ t + period + 14 ∧
    (c.isOpen (c.dueDay t period expiry) = true ∨ c.dueDay t period expiry = t ∨
      ∀ k, k ≤ 14 → c.isOpen (min (t + period + k) 65535) = false)) ∧
  (∀ (c : Calendar) (t period expiry d k : Nat), t ≤ 65535 → expiry ≤ 65535 →
    k ≤ 14 → d = min (t + period + k) 65535 → (c.isOpen d = true ∨ k = 14) →
    (∀ j, j < k → c.isOpen (min (t + period + j) 65535) = false) →
    (d ≤ expiry → c.dueDay t period expiry = d) ∧
    (expiry < d →
      (∀ x, t < x → x ≤ expiry → c.isOpen x = true → (∀ y, x < y → y ≤ expiry → c.isOpen y = false) →
        c.dueDay t period expiry = x) ∧
      ((∀ y, t < y → y ≤ expiry → c.isOpen y = false) → c.dueDay t period expiry = t))) ∧
  ∀ (c : Calendar) (d : Nat), c.isOpen d = true ↔
    c.closedMask.getLsbD ((d + c.weekday0) % 7) = false ∧
      ¬(c.base ≤ d ∧ d ≤ c.base + 511 ∧ c.closedDays.getLsbD (d - c.base) = true)


/-! ## Commits -/

/-- R68 to R72, R74, R42, R59, R39, R86, R107: a CHECKOUT. Its grant makes its thirteen checks in order; the first that
fails refuses it, and one that passes is served with its plan: the class by R42, the due day by R59, the bypass by R74,
what leaves the exception entry, and whether it is an implicit return. At the commit of one that is not, the loan stands
under the item and in its borrower's list behind every loan due no later; the borrower's loan_count rises by one; a hold
filled, or MISSING at the counter, leaves the exception entry; one CHECKOUT entry is appended; no other loan, borrower
or exception entry changes. A line joins the open slip of its borrower with the gather timer started afresh, opens one
where none is open, is cut with it as the eighth line, and is preceded by a cut of another borrower's slip. In OPEN, and
in CLOSING where the part stays there, the commit does so, restarts the bound borrower's idle timer, places
JOURNAL_LEVEL (R125) and a lost slip's SLIP_LOST (R109), and the reply gives the slip status. (The reply's order of
fields: log 15. The tables' numbers: log 16. The passes of TABLE_SUSPECT and JOURNAL_LEVEL are R46's and R125's.) (A
binding made again meanwhile is restarted too: log 40.) (A refusal carries only the values its rule names: log 27.) -/
def Obligations.CheckoutCommitMakesTheLoan : Prop :=
  (∀ (p : Port) (d : Desk) (b i : Nat) (o : Bool) (s : State), portDesk p = some d →
    s.grantCheck p (.checkout b i o) =
      if s.control.part ≠ .open ∧ s.control.part ≠ .closing then .refuse .deskClosed []
      else if s.clock.dateUnset = true then .refuse .dateUnset []
      else if s.borrowers.health = .suspect then .refuse .tableSuspect [.small 0]
      else if s.loans.health = .suspect then .refuse .tableSuspect [.small 1]
      else if s.items.health = .suspect then .refuse .tableSuspect [.small 2]
      else if s.policy.health = .suspect then .refuse .tableSuspect [.small 3]
      else match s.borrower? b with
        | none => .refuse .unknownBorrower []
        | some r =>
          let terms := s.policy.data.categoryOf r.category
          let fines := terms.fineLimit ≠ 0 ∧ terms.fineLimit ≤ r.fineBalance
          let overdue := terms.overdueBlock ≠ 0 ∧ terms.overdueBlock ≤ r.overdueLoans
          let e := s.exception? i
          let itemClass := match e.bind (·.classOverride) with
            | some c => c
            | none => match s.policy.data.ranges.find? fun g => g.low ≤ i && i ≤ g.high with
              | some g => g.itemClass
              | none => (s.terms d).defaultClass
          let period := (s.policy.data.cell itemClass r.category).period
          let plan : CheckoutPlan :=
            { borrower := b, item := i, itemClass, dueDay := s.policy.data.calendar.dueDay s.clock.today period r.expiryDay
              bypassed := decide (fines ∨ overdue ∨ terms.loanLimit ≤ r.loanCount)
              clearHold := (e.bind (·.holdFor)).isSome, clearMissing := e.any (·.missing)
              isImplicit := (s.loan? i).isSome }
          if r.serverBlock ≠ 0 then .refuse .blockedServer [.small r.serverBlock]
          else if r.expiryDay < s.clock.today then .refuse .blockedExpired [.day r.expiryDay]
          else if fines ∧ o = false then .refuse .blockedFines [.money r.fineBalance, .money terms.fineLimit]
          else if overdue ∧ o = false then
            .refuse .blockedOverdue [.small r.overdueLoans, .small terms.overdueBlock]
          else if terms.loanLimit ≤ r.loanCount ∧ (o = false ∨ 255 ≤ r.loanCount) then
            .refuse .limitReached [.small r.loanCount, .small terms.loanLimit]
          else if e.any (·.notLoanable) = true then .refuse .itemNotLoanable []
          else if (e.bind (·.holdFor)).any (· ≠ b) = true then .refuse .itemHeld []
          else if e.any (·.missing) = true ∧ d = .kiosk then .refuse .itemMissing []
          else if period = 0 then .refuse .itemNotLoanable []
          else if (if d = .console then 2944 else 2304) ≤ s.journal.occupancy then .refuse .journalFull []
          else match s.loan? i with
            | none => if s.loans.lowestFree < 12288 then .serve (.checkout plan) else .refuse .tableFull []
            | some l =>
              if l.borrower = b then .refuse .alreadyOnLoan []
              else if d = .kiosk then .refuse .onLoanElsewhere []
              else if 2943 ≤ s.journal.occupancy then .refuse .journalFull []
              else .serve (.checkout plan)) ∧
  (∀ (s : State) (d : Desk) (l : SlipLine) (b day time : Nat),
    ((s.desk d).ctx.openSlip = none →
      s.addLine d l b day time =
        s.modDesk d fun x =>
          { x with
            ctx :=
              { x.ctx with
                openSlip := some { borrower := b, day, time, lines := [l] }
                gather := some (s.terms d).gatherTime } }) ∧
    ∀ o, (s.desk d).ctx.openSlip = some o →
      (o.borrower = b → o.lines.length < 7 →
        s.addLine d l b day time =
          s.modDesk d fun x =>
            { x with
              ctx :=
                { x.ctx with
                  openSlip := some { o with lines := o.lines ++ [l] }, gather := some (s.terms d).gatherTime } }) ∧
      (o.borrower = b → 7 ≤ o.lines.length →
        s.addLine d l b day time =
          (s.modDesk d fun x =>
            { x with
              ctx :=
                { x.ctx with
                  openSlip := some { o with lines := o.lines ++ [l] }
                  gather := some (s.terms d).gatherTime } }).cut d) ∧
      (o.borrower ≠ b →
        s.addLine d l b day time =
          (s.cut d).modDesk d fun x =>
            { x with
              ctx :=
                { x.ctx with
                  openSlip := some { borrower := b, day, time, lines := [l] }
                  gather := some (s.terms d).gatherTime } })) ∧
  ∀ (v : Serving) (p : Port) (d : Desk) (c : CheckoutPlan) (b i : Nat) (o : Bool) (s : State),
    s.served = some (v, p, .checkout b i o) → v.plan = .checkout c → c.isImplicit = false → portDesk p = some d →
    s.loan? c.item = none → c.item ∉ s.loanList c.borrower → s.TablesAreMaps → s.journal.waitingDates = [] →
    ∃ t, exec .checkoutCommit s = .next t ∧
      t.loan? c.item =
        some
          { item := c.item, borrower := c.borrower, itemClass := c.itemClass, outDay := v.day, dueDay := c.dueDay
            chargedThrough := c.dueDay, fineAccrued := 0, renewals := 0, desk := d, countedOverdue := false
            overridden := c.bypassed } ∧
      (∀ j, j ≠ c.item → t.loan? j = s.loan? j) ∧
      t.loanList c.borrower =
        (s.loanList c.borrower).takeWhile (fun j => s.dueOf j ≤ c.dueDay) ++ [c.item] ++
          (s.loanList c.borrower).dropWhile (fun j => s.dueOf j ≤ c.dueDay) ∧
      (∀ n, n ≠ c.borrower → t.loanList n = s.loanList n) ∧
      t.borrower? c.borrower = (s.borrower? c.borrower).map (fun r => { r with loanCount := r.loanCount + 1 }) ∧
      (∀ n, n ≠ c.borrower → t.borrower? n = s.borrower? n) ∧
      (∀ e, s.exception? c.item = some e → (c.clearHold = true ∨ c.clearMissing = true) →
        t.exception? c.item =
          let e1 : ExceptionRecord :=
            { e with
              holdFor := if c.clearHold = true then none else e.holdFor
              missing := if c.clearMissing = true then false else e.missing }
          if e1.isEmpty = true then none else some e1) ∧
      (s.exception? c.item = none → t.exception? c.item = none) ∧
      (c.clearHold = false → c.clearMissing = false → t.exception? c.item = s.exception? c.item) ∧
      (∀ j, j ≠ c.item → t.exception? j = s.exception? j) ∧
      t.journal =
        s.journal.after
          [{ kind := .checkout, day := v.day, time := v.time, source := deskSource d, borrower := some c.borrower
             item := some c.item, dueDay := some c.dueDay
             flags := { override := c.bypassed, holdFilled := c.clearHold } }] ∧
      (s.control.part = .open ∨ t.control.part = .closing → ∀ line lost,
        line = { item := c.item, dueDay := c.dueDay, renewed := false } →
        lost = (decide (16 ≤ (s.desk d).spooler.spool.length) &&
          (s.desk d).ctx.openSlip.any fun o => o.borrower != c.borrower || decide (7 ≤ o.lines.length)) →
        (∀ e, e ≠ d → t.desk e = s.desk e) ∧
        t.desk d =
          (let x := (s.addLine d line c.borrower v.day v.time).desk d
          { x with
            ctx :=
              { x.ctx with
                idle :=
                  if x.ctx.bound.any (fun y => y.borrower = c.borrower) = true then some (s.terms d).idleTime
                  else x.ctx.idle } }) ∧
        t.shares = (s.addLine d line c.borrower v.day v.time).shares ∧
        (∀ q, s.PlacesAfter t q (levelNotices q s.journal.occupancy t.journal.occupancy ++
          if lost = true ∧ q = deskPort d then s.cutNotices d else [])) ∧
        s.repliesAfter t p .ok { slipLost := lost }
          ([.ident c.item, .ident c.borrower, .day c.dueDay,
            ((s.addLine d line c.borrower v.day v.time).slipStatus d lost).field] ++
              optField .ident none ++ optField .money none)) ∧
      t.policy = s.policy ∧ t.clock = s.clock

/-- R73, R76, R86, R87: the commit of an implicit return's CHECKOUT takes the old loan back from its borrower (its
charge to the balance, one loan fewer, one fewer overdue if it was counted so), and makes the new one: under the item,
in the new borrower's list behind every loan due no later, with one loan more. A hold filled, or MISSING, leaves the
exception entry. Two entries are appended: a RETURN flagged IMPLICIT with the old borrower's charge, then the CHECKOUT.
In OPEN, and in CLOSING where the part stays there, the line goes to the desk's open slip (R107), the idle timer
restarts if either borrower is bound (R20), JOURNAL_LEVEL and a lost slip's SLIP_LOST are placed, and the reply carries
IMPLICIT_RETURN with the old borrower and the charge. (The reply's order of fields: log 15.) (That the timer restarts
for the old borrower too: log 31; at a binding made again meanwhile too: log 40.) -/
def Obligations.ImplicitReturnsMoveTheLoan : Prop :=
  ∀ (v : Serving) (p : Port) (d : Desk) (c : CheckoutPlan) (l : LoanRecord) (b i : Nat) (o : Bool) (s : State),
    s.served = some (v, p, .checkout b i o) → v.plan = .checkout c → c.isImplicit = true → portDesk p = some d →
    s.loan? c.item = some l → l.borrower ≠ c.borrower → s.TablesAreMaps → s.LoanListsLawful →
    s.journal.waitingDates = [] →
    ∃ t, exec .checkoutCommit s = .next t ∧
      t.loan? c.item =
        some
          { item := c.item, borrower := c.borrower, itemClass := c.itemClass, outDay := v.day, dueDay := c.dueDay
            chargedThrough := c.dueDay, fineAccrued := 0, renewals := 0, desk := d, countedOverdue := false
            overridden := c.bypassed } ∧
      (∀ j, j ≠ c.item → t.loan? j = s.loan? j) ∧
      t.loanList l.borrower = (s.loanList l.borrower).erase c.item ∧
      t.loanList c.borrower =
        (s.loanList c.borrower).takeWhile (fun j => s.dueOf j ≤ c.dueDay) ++ [c.item] ++
          (s.loanList c.borrower).dropWhile (fun j => s.dueOf j ≤ c.dueDay) ∧
      (∀ n, n ≠ l.borrower → n ≠ c.borrower → t.loanList n = s.loanList n) ∧
      t.borrower? l.borrower =
        (s.borrower? l.borrower).map (fun r =>
          { r with
            loanCount := r.loanCount - 1
            overdueLoans := if l.countedOverdue = true then r.overdueLoans - 1 else r.overdueLoans
            fineBalance := r.fineBalance + (s.charge v.policy v.day l).addedBalance }) ∧
      t.borrower? c.borrower = (s.borrower? c.borrower).map (fun r => { r with loanCount := r.loanCount + 1 }) ∧
      (∀ n, n ≠ l.borrower → n ≠ c.borrower → t.borrower? n = s.borrower? n) ∧
      (∀ e, s.exception? c.item = some e → (c.clearHold = true ∨ c.clearMissing = true) →
        t.exception? c.item =
          let e1 : ExceptionRecord :=
            { e with
              holdFor := if c.clearHold = true then none else e.holdFor
              missing := if c.clearMissing = true then false else e.missing }
          if e1.isEmpty = true then none else some e1) ∧
      (s.exception? c.item = none → t.exception? c.item = none) ∧
      (c.clearHold = false → c.clearMissing = false → t.exception? c.item = s.exception? c.item) ∧
      (∀ j, j ≠ c.item → t.exception? j = s.exception? j) ∧
      t.journal =
        s.journal.after
          [{ kind := .returned, day := v.day, time := v.time, source := deskSource d, borrower := some l.borrower
             item := some c.item, dueDay := some l.dueDay, amount := some (s.charge v.policy v.day l).addedBalance
             flags := { isImplicit := true, saturated := (s.charge v.policy v.day l).saturated } },
           { kind := .checkout, day := v.day, time := v.time, source := deskSource d, borrower := some c.borrower
             item := some c.item, dueDay := some c.dueDay
             flags := { override := c.bypassed, holdFilled := c.clearHold } }] ∧
      (s.control.part = .open ∨ t.control.part = .closing → ∀ line lost,
        line = { item := c.item, dueDay := c.dueDay, renewed := false } →
        lost = (decide (16 ≤ (s.desk d).spooler.spool.length) &&
          (s.desk d).ctx.openSlip.any fun o => o.borrower != c.borrower || decide (7 ≤ o.lines.length)) →
        (∀ e, e ≠ d → t.desk e = s.desk e) ∧
        t.desk d =
          (let x := (s.addLine d line c.borrower v.day v.time).desk d
          { x with
            ctx :=
              { x.ctx with
                idle :=
                  if x.ctx.bound.any (fun y => y.borrower = c.borrower ∨ y.borrower = l.borrower) = true then
                    some (s.terms d).idleTime
                  else x.ctx.idle } }) ∧
        t.shares = (s.addLine d line c.borrower v.day v.time).shares ∧
        (∀ q, s.PlacesAfter t q (levelNotices q s.journal.occupancy t.journal.occupancy ++
          if lost = true ∧ q = deskPort d then s.cutNotices d else [])) ∧
        s.repliesAfter t p .ok { implicitReturn := true, slipLost := lost }
          ([.ident c.item, .ident c.borrower, .day c.dueDay,
            ((s.addLine d line c.borrower v.day v.time).slipStatus d lost).field] ++
              optField .ident (some l.borrower) ++ optField .money (some (s.charge v.policy v.day l).addedBalance))) ∧
      t.policy = s.policy ∧ t.clock = s.clock

/-- R68, R75, R76, R79, R80: a RETURN. Its grant is refused outside OPEN and CLOSING, with the date unset, at the Kiosk
with the loan map SUSPECT, and at a full journal. At the commit an item on loan leaves the loan map and its borrower's
list, the borrower takes the charge and counts one loan fewer, and one fewer overdue if the loan was counted so; a
RETURN entry is appended, the idle timer restarts if that borrower is bound (R20; also where it was bound again
meanwhile: log 40), and the reply gives the loan. An item not on loan changes no table: the UNMATCHED_RETURN entry is
appended and the reply is NOT_ON_LOAN. With a hold on the item, which is kept, a ROUTE slip is offered to the desk's
spool and the reply carries HOLD_ROUTE with the slip's status; at a spool of 16 slips it is lost, and the reply carries
SLIP_LOST. JOURNAL_LEVEL is placed where the entry changes the level (R125), FULL at entry 3,072 among them, and
SLIP_LOST behind it at the desk's port. (A reply's label report stands last: log 15. LOANS is table 1: log 16.) (A
refusal carries only the values its rule names: log 27.) -/
def Obligations.ReturnCommitTakesTheLoanBack : Prop :=
  (∀ (p : Port) (d : Desk) (i : Nat) (s : State), portDesk p = some d →
    s.grantCheck p (.returnItem i) =
      if s.control.part ≠ .open ∧ s.control.part ≠ .closing then .refuse .deskClosed []
      else if s.clock.dateUnset = true then .refuse .dateUnset []
      else if d = .kiosk ∧ s.loans.health = .suspect then .refuse .tableSuspect [.small 1]
      else if 3072 ≤ s.journal.occupancy then .refuse .journalFull []
      else .serve .plain) ∧
  ∀ (v : Serving) (p : Port) (d : Desk) (i : Nat) (route : Nat → Slip) (lost : Bool) (s : State),
    s.served = some (v, p, .returnItem i) → portDesk p = some d → s.TablesAreMaps → s.LoanListsLawful →
    s.journal.waitingDates = [] →
    (route = fun h => { desk := d, day := v.day, time := v.time, body := .route i (h % 10000) }) →
    lost = decide (16 ≤ (s.desk d).spooler.spool.length) →
    (∀ l, s.loan? i = some l →
      ∃ t, exec .returnCommit s = .next t ∧ t.loan? i = none ∧ (∀ j, j ≠ i → t.loan? j = s.loan? j) ∧
        t.loanList l.borrower = (s.loanList l.borrower).erase i ∧
        (∀ n, n ≠ l.borrower → t.loanList n = s.loanList n) ∧
        t.borrower? l.borrower =
          (s.borrower? l.borrower).map (fun r =>
            { r with
              loanCount := r.loanCount - 1
              overdueLoans := if l.countedOverdue = true then r.overdueLoans - 1 else r.overdueLoans
              fineBalance := r.fineBalance + (s.charge v.policy v.day l).addedBalance }) ∧
        (∀ n, n ≠ l.borrower → t.borrower? n = s.borrower? n) ∧ t.items.entries = s.items.entries ∧
        t.journal =
          s.journal.after
            [{ kind := .returned, day := v.day, time := v.time, source := deskSource d, borrower := some l.borrower
               item := some i, dueDay := some l.dueDay, amount := some (s.charge v.policy v.day l).addedBalance
               flags := { saturated := (s.charge v.policy v.day l).saturated } }] ∧
        ((s.exception? i).bind (·.holdFor) = none →
          s.repliesAfter t p .ok {}
            [.ident i, .ident l.borrower, .day l.dueDay, .money (s.charge v.policy v.day l).addedBalance,
             .cents (s.charge v.policy v.day l).loan.fineAccrued, SlipStatus.none.field] ∧
          (s.control.part = .open ∨ t.control.part = .closing →
            t.shares = s.shares ∧ (t.desk d).spooler = (s.desk d).spooler ∧
            ∀ q, s.PlacesAfter t q (levelNotices q s.journal.occupancy t.journal.occupancy))) ∧
        (s.journal.occupancy = 3071 → levelOf t.journal.occupancy = .full) ∧
        (∀ h, (s.exception? i).bind (·.holdFor) = some h →
          s.repliesAfter t p .ok { holdRoute := true, slipLost := lost }
            [.ident i, .ident l.borrower, .day l.dueDay, .money (s.charge v.policy v.day l).addedBalance,
             .cents (s.charge v.policy v.day l).loan.fineAccrued,
             ((s.offerSlip (route h)).slipStatus d lost).field] ∧
          (s.control.part = .open ∨ t.control.part = .closing →
            t.shares = (if lost = true then (s.addLostSlips d 1).shares else s.shares) ∧
            (∀ q, s.PlacesAfter t q (levelNotices q s.journal.occupancy t.journal.occupancy ++
              if lost = true ∧ q = deskPort d then [.slipLost .spoolFull 1 (some .route) none] else [])) ∧
            (t.desk d).spooler.spool =
              if lost = true then (s.desk d).spooler.spool else (s.desk d).spooler.spool ++ [route h])) ∧
        (s.control.part = .open ∨ t.control.part = .closing →
          (∀ e, e ≠ d → t.desk e = s.desk e) ∧
          (t.desk d).ctx =
            { (s.desk d).ctx with
              idle :=
                if (s.desk d).ctx.bound.any (fun y => y.borrower = l.borrower) = true then some (s.terms d).idleTime
                else (s.desk d).ctx.idle }) ∧
        t.policy = s.policy ∧ t.clock = s.clock) ∧
    (s.loan? i = none →
      ∃ t, exec .returnCommit s = .next t ∧ SameTables s t ∧
        t.journal =
          s.journal.after
            [{ kind := .unmatchedReturn, day := v.day, time := v.time, source := deskSource d, item := some i }] ∧
        ((s.exception? i).bind (·.holdFor) = none →
          s.repliesAfter t p .notOnLoan {} [.ident i, SlipStatus.none.field] ∧
          (s.control.part = .open ∨ t.control.part = .closing →
            t.shares = s.shares ∧ (t.desk d).spooler = (s.desk d).spooler ∧
            ∀ q, s.PlacesAfter t q (levelNotices q s.journal.occupancy t.journal.occupancy))) ∧
        (s.journal.occupancy = 3071 → levelOf t.journal.occupancy = .full) ∧
        (∀ h, (s.exception? i).bind (·.holdFor) = some h →
          s.repliesAfter t p .notOnLoan { holdRoute := true, slipLost := lost }
            [.ident i, ((s.offerSlip (route h)).slipStatus d lost).field] ∧
          (s.control.part = .open ∨ t.control.part = .closing →
            t.shares = (if lost = true then (s.addLostSlips d 1).shares else s.shares) ∧
            (∀ q, s.PlacesAfter t q (levelNotices q s.journal.occupancy t.journal.occupancy ++
              if lost = true ∧ q = deskPort d then [.slipLost .spoolFull 1 (some .route) none] else [])) ∧
            (t.desk d).spooler.spool =
              if lost = true then (s.desk d).spooler.spool else (s.desk d).spooler.spool ++ [route h])) ∧
        (s.control.part = .open ∨ t.control.part = .closing →
          (∀ e, e ≠ d → t.desk e = s.desk e) ∧ (t.desk d).ctx = (s.desk d).ctx))

/-- R68, R77, R78, R74, R39, R59, R86, R87: a RENEW. Its grant makes its thirteen checks in order; the first that fails
refuses it, and one that passes is served with the new due day (by R59 from the class stored in the loan) and the
bypass. At the commit the loan is charged, its overdue mark cleared and its borrower's overdue count with it; its due
day and charged_through become the new due day, its renewals rise by one, and it enters its borrower's list again. One
RENEW entry is appended. No other loan or borrower changes. In OPEN, and in CLOSING where the part stays there, the
line, marked renewed, goes to the desk's open slip (R107), the idle timer restarts if the borrower is bound (R20; also
where it was bound again meanwhile: log 40), JOURNAL_LEVEL and a lost slip's SLIP_LOST are placed, and the reply gives
the renewal with the slip status. (The reply's order of fields: log 15. The tables' numbers: log 16.) (The refusals for
a block carry the values R69 gives them: log 27.) -/
def Obligations.RenewCommitMovesTheDueDay : Prop :=
  (∀ (p : Port) (d : Desk) (b i : Nat) (o : Bool) (s : State), portDesk p = some d →
    s.grantCheck p (.renew b i o) =
      if s.control.part ≠ .open ∧ s.control.part ≠ .closing then .refuse .deskClosed []
      else if s.clock.dateUnset = true then .refuse .dateUnset []
      else if s.borrowers.health = .suspect then .refuse .tableSuspect [.small 0]
      else if s.loans.health = .suspect then .refuse .tableSuspect [.small 1]
      else if s.items.health = .suspect then .refuse .tableSuspect [.small 2]
      else if s.policy.health = .suspect then .refuse .tableSuspect [.small 3]
      else match s.loan? i with
        | none => .refuse .notOnLoan []
        | some l =>
          if l.borrower ≠ b then .refuse .notOnLoan []
          else match s.borrower? b with
            | none => .refuse .unknownBorrower []
            | some r =>
              let terms := s.policy.data.categoryOf r.category
              let fines := terms.fineLimit ≠ 0 ∧ terms.fineLimit ≤ r.fineBalance
              let overdue := terms.overdueBlock ≠ 0 ∧ terms.overdueBlock ≤ r.overdueLoans
              let cell := s.policy.data.cell l.itemClass r.category
              let newDue := s.policy.data.calendar.dueDay s.clock.today cell.period r.expiryDay
              if r.serverBlock ≠ 0 then .refuse .blockedServer [.small r.serverBlock]
              else if r.expiryDay < s.clock.today then .refuse .blockedExpired [.day r.expiryDay]
              else if fines ∧ o = false then .refuse .blockedFines [.money r.fineBalance, .money terms.fineLimit]
              else if overdue ∧ o = false then
                .refuse .blockedOverdue [.small r.overdueLoans, .small terms.overdueBlock]
              else if ((s.exception? i).bind (·.holdFor)).isSome = true then .refuse .itemHeld []
              else if cell.renewalLimit ≤ l.renewals then .refuse .renewLimit []
              else if cell.period = 0 then .refuse .itemNotLoanable []
              else if (if d = .console then 2944 else 2304) ≤ s.journal.occupancy then .refuse .journalFull []
              else if newDue ≤ l.dueDay then .refuse .renewNoGain []
              else .serve (.renew { borrower := b, item := i, newDue, bypassed := decide (fines ∨ overdue) })) ∧
  ∀ (v : Serving) (p : Port) (d : Desk) (b i : Nat) (o : Bool) (r : RenewPlan) (l : LoanRecord) (s : State),
    s.served = some (v, p, .renew b i o) → v.plan = .renew r → portDesk p = some d → s.loan? i = some l →
    s.TablesAreMaps → s.LoanListsLawful → s.journal.waitingDates = [] →
    ∃ t, exec .renewCommit s = .next t ∧
      t.loan? i =
        some
          { l with
            dueDay := r.newDue
            chargedThrough := r.newDue
            renewals := l.renewals + 1
            countedOverdue := false
            fineAccrued := (s.charge v.policy v.day l).loan.fineAccrued } ∧
      (∀ j, j ≠ i → t.loan? j = s.loan? j) ∧
      t.borrower? l.borrower =
        (s.borrower? l.borrower).map (fun x =>
          { x with
            overdueLoans := if l.countedOverdue = true then x.overdueLoans - 1 else x.overdueLoans
            fineBalance := x.fineBalance + (s.charge v.policy v.day l).addedBalance }) ∧
      (∀ n, n ≠ l.borrower → t.borrower? n = s.borrower? n) ∧
      t.loanList l.borrower =
        ((s.loanList l.borrower).erase i).takeWhile (fun j => s.dueOf j ≤ r.newDue) ++ [i] ++
          ((s.loanList l.borrower).erase i).dropWhile (fun j => s.dueOf j ≤ r.newDue) ∧
      (∀ n, n ≠ l.borrower → t.loanList n = s.loanList n) ∧ t.items.entries = s.items.entries ∧
      t.journal =
        s.journal.after
          [{ kind := .renew, day := v.day, time := v.time, source := deskSource d, borrower := some r.borrower
             item := some r.item, dueDay := some r.newDue
             amount := some (s.charge v.policy v.day l).addedBalance
             flags := { override := r.bypassed, saturated := (s.charge v.policy v.day l).saturated } }] ∧
      (s.control.part = .open ∨ t.control.part = .closing → ∀ line lost,
        line = { item := r.item, dueDay := r.newDue, renewed := true } →
        lost = (decide (16 ≤ (s.desk d).spooler.spool.length) &&
          (s.desk d).ctx.openSlip.any fun o => o.borrower != r.borrower || decide (7 ≤ o.lines.length)) →
        (∀ e, e ≠ d → t.desk e = s.desk e) ∧
        t.desk d =
          (let x := (s.addLine d line r.borrower v.day v.time).desk d
          { x with
            ctx :=
              { x.ctx with
                idle :=
                  if x.ctx.bound.any (fun y => y.borrower = r.borrower) = true then some (s.terms d).idleTime
                  else x.ctx.idle } }) ∧
        t.shares = (s.addLine d line r.borrower v.day v.time).shares ∧
        (∀ q, s.PlacesAfter t q (levelNotices q s.journal.occupancy t.journal.occupancy ++
          if lost = true ∧ q = deskPort d then s.cutNotices d else [])) ∧
        s.repliesAfter t p .ok { slipLost := lost }
          [.ident r.item, .ident r.borrower, .day l.dueDay, .day r.newDue, .small (l.renewals + 1),
           .money (s.charge v.policy v.day l).addedBalance,
           ((s.addLine d line r.borrower v.day v.time).slipStatus d lost).field]) ∧
      t.policy = s.policy ∧ t.clock = s.clock

/-- R68, R81, R82, R83, R86, R87: the account requests. Their grants make their checks in order, and the first that
fails refuses. FINE_PAY lowers the balance by the smaller of the amount and the balance, with a PAYMENT entry and a
PAYMENT slip offered to the Console spool, lost with SLIP_LOST at one of 16 slips, with the idle timer restarted if the
borrower is bound (R20; also where it was bound again meanwhile: log 40), and has no commit at a balance of 0.
BORROWER_ADD inserts a PROVISIONAL borrower in the lowest free slot with a BORROWER_ADDED entry. ITEM_FLAG_SET sets or
clears the flag of the item's exception entry with an ITEM_FLAGGED entry that carries the item's flags after it, as its
reply does (HOLD 1, NOT_LOANABLE 2, MISSING 4, of R167; the hold borrower's presence is no flag: log 17), and has no
commit where the flag stands as asked. Each changes no other record, and places JOURNAL_LEVEL where its entry changes
the level (R125). (The replies' order of fields: log 15. The numbers of tables and origins: log 16.) (A refusal carries
only the values its rule names: log 27.) -/
def Obligations.AccountCommitsChangeOneRecord : Prop :=
  (∀ (p : Port) (n m : Nat) (flag : ItemFlag) (set : Bool) (s : State),
    s.grantCheck p (.finePay n m) =
      (if s.control.part ≠ .open ∧ s.control.part ≠ .closing then .refuse .deskClosed []
      else if s.clock.dateUnset = true then .refuse .dateUnset []
      else if s.borrowers.health = .suspect then .refuse .tableSuspect [.small 0]
      else if s.borrower? n = none then .refuse .unknownBorrower []
      else if 2944 ≤ s.journal.occupancy then .refuse .journalFull []
      else .serve .plain) ∧
    s.grantCheck p (.borrowerAdd n m) =
      (if s.control.part ≠ .open ∧ s.control.part ≠ .closing then .refuse .deskClosed []
      else if s.clock.dateUnset = true then .refuse .dateUnset []
      else if s.borrowers.health = .suspect then .refuse .tableSuspect [.small 0]
      else if s.policy.health = .suspect then .refuse .tableSuspect [.small 3]
      else match s.borrower? n with
        | some r => .refuse .alreadyExists [.small r.origin.ctorIdx]
        | none =>
          if 2944 ≤ s.journal.occupancy then .refuse .journalFull []
          else if s.borrowers.lowestFree < 6144 then .serve .plain
          else .refuse .tableFull []) ∧
    s.grantCheck p (.itemFlagSet n flag set) =
      if s.control.part ≠ .open ∧ s.control.part ≠ .closing then .refuse .deskClosed []
      else if s.clock.dateUnset = true then .refuse .dateUnset []
      else if s.items.health = .suspect then .refuse .tableSuspect [.small 2]
      else if 2944 ≤ s.journal.occupancy then .refuse .journalFull []
      else if s.exception? n = none ∧ set = true ∧ 2048 ≤ s.items.lowestFree then .refuse .tableFull []
      else .serve .plain) ∧
  ∀ (v : Serving) (p : Port) (d : Desk) (s : State),
    portDesk p = some d → s.TablesAreMaps → s.journal.waitingDates = [] →
    (∀ n amount r, s.served = some (v, p, .finePay n amount) → s.borrower? n = some r →
      ∃ t, exec .finePayCommit s = .next t ∧
        t.borrower? n = some { r with fineBalance := r.fineBalance - min amount r.fineBalance } ∧
        (∀ m, m ≠ n → t.borrower? m = s.borrower? m) ∧ t.loans.entries = s.loans.entries ∧
        t.items.entries = s.items.entries ∧
        (min amount r.fineBalance = 0 → t.journal = s.journal ∧
          s.repliesAfter t p .ok {} [.money 0, .money r.fineBalance, SlipStatus.none.field]) ∧
        (∀ slip lost, 0 < min amount r.fineBalance →
          slip = { desk := .console, day := v.day, time := v.time
                   body := .payment (min amount r.fineBalance) (r.fineBalance - min amount r.fineBalance) : Slip } →
          lost = decide (16 ≤ s.console.spooler.spool.length) →
          t.journal =
            s.journal.after
              [{ kind := .payment, day := v.day, time := v.time, source := deskSource d, borrower := some n
                 amount := some (min amount r.fineBalance) }] ∧
          s.repliesAfter t p .ok { slipLost := lost }
            [.money (min amount r.fineBalance), .money (r.fineBalance - min amount r.fineBalance),
             ((s.offerSlip slip).slipStatus .console lost).field] ∧
          (s.control.part = .open ∨ t.control.part = .closing →
            t.shares = (if lost = true then (s.addLostSlips .console 1).shares else s.shares) ∧
            (∀ q, s.PlacesAfter t q (levelNotices q s.journal.occupancy t.journal.occupancy ++
              if lost = true ∧ q = .console then [.slipLost .spoolFull 1 (some .payment) none] else [])) ∧
            t.console.spooler.spool =
              (if lost = true then s.console.spooler.spool else s.console.spooler.spool ++ [slip]) ∧
            (∀ e, (t.desk e).ctx.openSlip = (s.desk e).ctx.openSlip) ∧ (∀ e, e ≠ d → (t.desk e).ctx = (s.desk e).ctx) ∧
            (t.desk d).ctx =
              { (s.desk d).ctx with
                idle :=
                  if (s.desk d).ctx.bound.any (fun y => y.borrower = n) = true then some (s.terms d).idleTime
                  else (s.desk d).ctx.idle }))) ∧
    (∀ n category, s.served = some (v, p, .borrowerAdd n category) → s.borrower? n = none →
      ∃ t, exec .borrowerAddCommit s = .next t ∧
        t.borrower? n =
          some
            { number := n, category, expiryDay := min (v.day + (v.policy.categoryOf category).provisionalDays) 65535
              fineBalance := 0, loanCount := 0, overdueLoans := 0, serverBlock := 0, origin := .provisional
              stale := false } ∧
        (∀ m, m ≠ n → t.borrower? m = s.borrower? m) ∧
        (∀ e ∈ t.borrowers.entries, e.rcd.number = n → e.slot = s.borrowers.lowestFree) ∧
        t.loans.entries = s.loans.entries ∧ t.items.entries = s.items.entries ∧
        s.repliesAfter t p .ok {}
          [.ident n, .day (min (v.day + (v.policy.categoryOf category).provisionalDays) 65535)] ∧
        t.journal =
          s.journal.after
            [{ kind := .borrowerAdded, day := v.day, time := v.time, source := deskSource d, borrower := some n
               dueDay := some (min (v.day + (v.policy.categoryOf category).provisionalDays) 65535)
               amount := some category }] ∧
        (s.control.part = .open ∨ t.control.part = .closing →
          ∀ q, s.PlacesAfter t q (levelNotices q s.journal.occupancy t.journal.occupancy))) ∧
    ∀ i flag set, s.served = some (v, p, .itemFlagSet i flag set) →
      ∃ t, exec .itemFlagSetCommit s = .next t ∧ (∀ j, j ≠ i → t.exception? j = s.exception? j) ∧
        t.borrowers.entries = s.borrowers.entries ∧ t.loans.entries = s.loans.entries ∧
        (s.control.part = .open ∨ t.control.part = .closing →
          ∀ q, s.PlacesAfter t q (levelNotices q s.journal.occupancy t.journal.occupancy)) ∧
        (s.exception? i = none → set = true →
          t.exception? i =
            some
              { item := i, holdFor := none, notLoanable := flag == .notLoanable, missing := flag == .missing
                classOverride := none } ∧
          t.journal =
            s.journal.after
              [{ kind := .itemFlagged, day := v.day, time := v.time, source := deskSource d, item := some i
                 amount := some (if flag = .missing then 4 else 2) }] ∧
          s.repliesAfter t p .ok {} [.small (if flag = .missing then 4 else 2)]) ∧
        (s.exception? i = none → set = false →
          t.exception? i = none ∧ t.journal = s.journal ∧ s.repliesAfter t p .ok {} [.small 0]) ∧
        ∀ e e1 flagsOf, s.exception? i = some e →
          e1 = { e with
                 notLoanable := if flag = .notLoanable then set else e.notLoanable
                 missing := if flag = .missing then set else e.missing } →
          (flagsOf = fun x : ExceptionRecord =>
            (if x.holdFor.isSome = true then 1 else 0) + (if x.notLoanable = true then 2 else 0) +
              if x.missing = true then 4 else 0) →
          (e1 = e → t.exception? i = some e ∧ t.journal = s.journal ∧ s.repliesAfter t p .ok {} [.small (flagsOf e)]) ∧
          (e1 ≠ e →
            t.exception? i = (if e1.isEmpty = true then none else some e1) ∧
            t.journal =
              s.journal.after
                [{ kind := .itemFlagged, day := v.day, time := v.time, source := deskSource d, item := some i
                   amount := some (flagsOf e1) }] ∧
            s.repliesAfter t p .ok {} [.small (flagsOf e1)])

/-- R84, R85: a query changes no record and appends nothing. BORROWER_QUERY replies with the borrower's record, the length
of the loan list, the verdict of a CHECKOUT without override and the healths, or UNKNOWN_BORROWER with the borrower map's
health; LOANS_LIST with the list's length, the start, the loan map's health and up to 16 loans from the start. (A list
stands without a count: log 15. The byte of a record's origin: log 16.) -/
def Obligations.QueriesChangeNoRecord : Prop :=
  ∀ (v : Serving) (p : Port) (n : Nat) (s : State), s.journal.waitingDates = [] →
    (s.served = some (v, p, .borrowerQuery n) →
      ∃ t, exec .borrowerQueryEnd s = .next t ∧ SameTables s t ∧ t.journal = s.journal ∧
        (s.borrower? n = none → s.repliesAfter t p .unknownBorrower {} [.small s.borrowers.health.ctorIdx]) ∧
        ∀ r, s.borrower? n = some r →
          s.repliesAfter t p .ok {}
            [.small r.category, .day r.expiryDay, .money r.fineBalance, .small r.loanCount, .small r.overdueLoans,
             .small r.serverBlock, .small r.origin.ctorIdx, .flag r.stale, .small (s.loanList r.number).length,
             .small (checkoutVerdict r (v.policy.categoryOf r.category) v.day false).code.number,
             .small s.borrowers.health.ctorIdx, .small s.loans.health.ctorIdx, .small s.policy.health.ctorIdx]) ∧
    ∀ start, s.served = some (v, p, .loansList n start) →
      ∃ t, exec .loansListEnd s = .next t ∧ SameTables s t ∧ t.journal = s.journal ∧
        s.repliesAfter t p .ok {}
          ([.small (s.loanList n).length, .small start, .small s.loans.health.ctorIdx] ++
            ((((s.loanList n).drop start).take 16).filterMap s.loan?).flatMap LoanRecord.fields)

/-- R144, R48, R44, R4, R12, R13, R27: the commit of a POLICY_LOAD. The section is replaced whole by its contents
clamped into their ranges, with its check, the policy sum and its reloaded mark; at the sixth mark the policy is SOUND;
the other sections stay. The reply carries CLAMPED where a value moved. In OPEN and CLOSING new desk terms re-evaluate a
wand whose mode changed: a change to PRESENCE_HOLD with presence released starts an Active wand's hold timer at 30 s,
and any other change stops the timer; a scan is abandoned where the wand leaves Active, and kept where it stays.
Auto-bind turned ON takes the BORROWER labels from the scan queue. CLOSING may end at the commit of its last desk
request (R150). -/
def Obligations.PolicyLoadReplacesASection : Prop :=
  ∀ (v : Serving) (p : Port) (c : SectionContents) (s : State), s.served = some (v, p, .policyLoad c) →
    ∃ t, exec .policyLoadCommit s = .next t ∧
      t.policy.data.contents c.name = clampContents c ∧
      (∀ k, k ≠ c.name → t.policy.data.contents k = s.policy.data.contents k) ∧
      t.policy.checks.get c.name = crc16 (clampContents c).bytes ∧
      (∀ k, k ≠ c.name → t.policy.checks.get k = s.policy.checks.get k) ∧
      t.policy.sum + (s.policy.checks.get c.name).setWidth 32 =
        s.policy.sum + (t.policy.checks.get c.name).setWidth 32 ∧
      t.policy.reloaded.get c.name = true ∧
      (∀ k, k ≠ c.name → t.policy.reloaded.get k = s.policy.reloaded.get k) ∧
      ((∀ k, t.policy.reloaded.get k = true) → t.policy.health = .sound) ∧
      ((∃ k, t.policy.reloaded.get k = false) → t.policy.health = s.policy.health) ∧
      t.borrowers.entries = s.borrowers.entries ∧ t.loans.entries = s.loans.entries ∧ t.loanLists = s.loanLists ∧
      t.items.entries = s.items.entries ∧ t.clock = s.clock ∧
      s.repliesAfter t p .ok { clamped := decide (clampContents c ≠ c) }
        [.small c.name.ctorIdx, .small t.policy.health.ctorIdx, .small (marksClear t.policy.reloaded)] ∧
      (s.control.part = .open → t.control.part = .open) ∧
      (s.control.part = .closing → s.control.drainEnded = false →
        ¬(s.deskDrained .console = true ∧ s.deskDrained .kiosk = true) → t.control.part = .closing) ∧
      (s.control.part.desksServe = true → t.control.part = s.control.part →
        (c.name ≠ .deskTerms → ∀ d, t.desk d = s.desk d) ∧
        ∀ terms, clampContents c = .deskTerms terms → ∀ d,
          (t.desk d).ctx =
            { (s.desk d).ctx with
              queue :=
                if (s.terms d).autoBind = false ∧ (terms.terms d).autoBind = true then
                  (s.desk d).ctx.queue.filter fun r => r.kind = .item
                else (s.desk d).ctx.queue } ∧
          ((s.terms d).wandMode = (terms.terms d).wandMode → (t.desk d).wand = (s.desk d).wand) ∧
          ((s.terms d).wandMode ≠ (terms.terms d).wandMode →
            (t.desk d).wand.hold =
              (if (terms.terms d).wandMode = .presenceHold ∧ (s.desk d).ctx.presence = .released ∧
                (s.desk d).wand.state = .active then some 30 else none) ∧
            (t.desk d).wand.state =
              wandStateBy s.control.part (terms.terms d).wandMode (s.desk d).ctx.presence (t.desk d).wand.hold.isSome ∧
            (s.desk d).wand.Follows (t.desk d).wand (s.desk d).lines.wand))

/-! ## The steps of the downloads -/

/-- R134 to R137, R143, R39: a step of a load applies its one record, by the record's own rule, and keeps its outcome
and its CLAMPED mark; after the last record the outcomes are the reply, and before it the burst goes on with the records
left. A refused record changes nothing; every other record of the table stays. A value outside its range is BAD_FIELD.
BORROWER_LOAD: UPDATED, INSERTED or TABLE_FULL, and with the remove flag ABSENT, REMOVED or KEPT_WITHDRAWN; CLAMPED
where the balance moved by the delta leaves 0 to 999,999. ITEM_FLAGS_LOAD: the entry is replaced whole, inserted, or
removed; TABLE_FULL with no free slot. LOAN_LOAD: the checks in their order UNKNOWN_BORROWER, DUPLICATE, LIMIT_REACHED
(255 loans), TABLE_FULL; a loan inserted enters its borrower's list and its counts, CLAMPED where charged_through moved.
(The codes of a record are those of R167, with its action UPSERT 0 and REMOVE 1: log 16.) -/
def Obligations.LoadStepsApplyTheirRecord : Prop :=
  (∀ (v : Serving) (p : Port) (r : BorrowerLoadRecord) (rest : List BorrowerLoadRecord) (done : List RecordReport)
      (s : State), s.served = some (v, p, .borrowerLoad (r :: rest) done) → s.TablesAreMaps →
    ∃ (t : State) (o : RecordOutcome) (clamped : Bool) (done1 : List RecordReport), exec .borrowerLoadStep s = .next t ∧
      done1 = done ++ [{ outcome := o, clamped, reference := r.reference }] ∧
      (rest ≠ [] → t.portOp p = some (.borrowerLoad rest done1)) ∧
      (rest = [] → s.repliesAfter t p .ok { clamped := done1.any (·.clamped) } (reportFields done1)) ∧
      (∀ n, n ≠ r.borrower → t.borrower? n = s.borrower? n) ∧ t.loans.entries = s.loans.entries ∧
      t.items.entries = s.items.entries ∧
      ((9999999999 < r.borrower ∨ r.delta < -999999 ∨ 999999 < r.delta ∨ 1 < r.remove ∨
          (r.remove = 0 ∧ (7 < r.category ∨ 65535 < r.expiryDay ∨ 15 < r.serverBlock))) →
        o = .badField ∧ clamped = false ∧ t.borrower? r.borrower = s.borrower? r.borrower) ∧
      (r.borrower ≤ 9999999999 → -999999 ≤ r.delta → r.delta ≤ 999999 →
        (r.remove = 0 → r.category ≤ 7 → r.expiryDay ≤ 65535 → r.serverBlock ≤ 15 →
          (∀ b, s.borrower? r.borrower = some b →
            o = .updated ∧
            clamped = decide ((b.fineBalance : Int) + r.delta < 0 ∨ 999999 < (b.fineBalance : Int) + r.delta) ∧
            t.borrower? r.borrower =
              some
                { b with
                  category := r.category
                  expiryDay := r.expiryDay
                  serverBlock := r.serverBlock
                  fineBalance := (max 0 (min ((b.fineBalance : Int) + r.delta) 999999)).toNat
                  origin := .downloaded
                  stale := false }) ∧
          (s.borrower? r.borrower = none → s.borrowers.lowestFree < 6144 →
            o = .inserted ∧ clamped = decide (r.delta < 0) ∧
            t.borrower? r.borrower =
              some
                { number := r.borrower, category := r.category, expiryDay := r.expiryDay
                  fineBalance := (max 0 r.delta).toNat, loanCount := 0, overdueLoans := 0
                  serverBlock := r.serverBlock, origin := .downloaded, stale := false }) ∧
          (s.borrower? r.borrower = none → 6144 ≤ s.borrowers.lowestFree →
            o = .tableFull ∧ clamped = false ∧ t.borrower? r.borrower = none)) ∧
        (r.remove = 1 →
          (s.borrower? r.borrower = none → o = .absent ∧ clamped = false ∧ t.borrower? r.borrower = none) ∧
          ∀ b, s.borrower? r.borrower = some b →
            clamped = decide ((b.fineBalance : Int) + r.delta < 0 ∨ 999999 < (b.fineBalance : Int) + r.delta) ∧
            (b.loanCount = 0 → (b.fineBalance : Int) + r.delta ≤ 0 →
              o = .removed ∧ t.borrower? r.borrower = none) ∧
            ((b.loanCount ≠ 0 ∨ 0 < (b.fineBalance : Int) + r.delta) →
              o = .keptWithdrawn ∧
              t.borrower? r.borrower =
                some
                  { b with
                    fineBalance := (max 0 (min ((b.fineBalance : Int) + r.delta) 999999)).toNat
                    serverBlock := 15
                    origin := .downloaded
                    stale := false })))) ∧
  (∀ (v : Serving) (p : Port) (r : ItemLoadRecord) (rest : List ItemLoadRecord) (done : List RecordReport) (bad : Prop)
      (given : ExceptionRecord) (s : State),
    s.served = some (v, p, .itemFlagsLoad (r :: rest) done) → s.TablesAreMaps →
    (bad ↔ 9999999999 < r.item ∨ (r.flags.getLsbD 7 = true ∧ 9999999999 < r.holdBorrower) ∨ 1 < r.action ∨
      r.flags &&& 0x78#8 ≠ 0#8 ∨ (r.classOverride ≠ 255 ∧ 15 < r.classOverride) ∨
      r.flags.getLsbD 0 ≠ r.flags.getLsbD 7) →
    given =
      { item := r.item, holdFor := if r.flags.getLsbD 0 = true then some r.holdBorrower else none
        notLoanable := r.flags.getLsbD 1, missing := r.flags.getLsbD 2
        classOverride := if r.classOverride = 255 then none else some r.classOverride } →
    ∃ (t : State) (o : RecordOutcome) (done1 : List RecordReport), exec .itemFlagsLoadStep s = .next t ∧
      done1 = done ++ [{ outcome := o, clamped := false, reference := bytesOf 5 r.item }] ∧
      (rest ≠ [] → t.portOp p = some (.itemFlagsLoad rest done1)) ∧
      (rest = [] → s.repliesAfter t p .ok { clamped := done1.any (·.clamped) } (reportFields done1)) ∧
      (∀ i, i ≠ r.item → t.exception? i = s.exception? i) ∧ t.loans.entries = s.loans.entries ∧
      t.borrowers.entries = s.borrowers.entries ∧
      (bad → o = .badField ∧ t.exception? r.item = s.exception? r.item) ∧
      (¬bad → r.action = 0 → given.isEmpty = false →
        ((s.exception? r.item).isSome = true → o = .updated ∧ t.exception? r.item = some given) ∧
        (s.exception? r.item = none → s.items.lowestFree < 2048 →
          o = .inserted ∧ t.exception? r.item = some given) ∧
        (s.exception? r.item = none → 2048 ≤ s.items.lowestFree → o = .tableFull ∧ t.exception? r.item = none)) ∧
      (¬bad → (r.action = 1 ∨ given.isEmpty = true) →
        o = (if (s.exception? r.item).isSome = true then .removed else .absent) ∧ t.exception? r.item = none)) ∧
  ∀ (v : Serving) (p : Port) (r : LoanLoadRecord) (rest : List LoanLoadRecord) (done : List RecordReport) (bad : Prop)
      (s : State), s.served = some (v, p, .loanLoad (r :: rest) done) → s.TablesAreMaps →
    (bad ↔ 9999999999 < r.item ∨ 9999999999 < r.borrower ∨ 15 < r.itemClass ∨ 15 < r.renewals ∨ 1 < r.desk ∨
      65535 < r.outDay ∨ 65535 < r.dueDay ∨ 65535 < r.chargedThrough ∨ r.dueDay < r.outDay) →
    ∃ (t : State) (o : RecordOutcome) (clamped : Bool) (done1 : List RecordReport), exec .loanLoadStep s = .next t ∧
      done1 = done ++ [{ outcome := o, clamped, reference := r.reference }] ∧
      (rest ≠ [] → (s.port p).inFlight.any (·.started) = true →
        t.portOp p = some (.loanLoad rest done1)) ∧
      (rest = [] → s.repliesAfter t p .ok { clamped := done1.any (·.clamped) } (reportFields done1)) ∧
      (∀ i, i ≠ r.item → t.loan? i = s.loan? i) ∧ (∀ n, n ≠ r.borrower → t.borrower? n = s.borrower? n) ∧
      (∀ n, n ≠ r.borrower → t.loanList n = s.loanList n) ∧ t.items.entries = s.items.entries ∧
      (o ≠ .inserted →
        clamped = false ∧ t.loans.entries = s.loans.entries ∧ t.loanLists = s.loanLists ∧
        t.borrowers.entries = s.borrowers.entries) ∧
      (bad → o = .badField) ∧
      (¬bad → s.borrower? r.borrower = none → o = .unknownBorrower) ∧
      (¬bad → ∀ b, s.borrower? r.borrower = some b →
        ((s.loan? r.item).isSome = true → o = .duplicate) ∧
        (s.loan? r.item = none →
          (255 ≤ (s.loanList r.borrower).length → o = .limitReached) ∧
          ((s.loanList r.borrower).length < 255 →
            (12288 ≤ s.loans.lowestFree → o = .tableFull) ∧
            (s.loans.lowestFree < 12288 →
              o = .inserted ∧
              clamped =
                decide (r.chargedThrough < r.dueDay ∨ (r.dueDay < r.chargedThrough ∧ v.day < r.chargedThrough)) ∧
              t.loan? r.item =
                some
                  { item := r.item, borrower := r.borrower, itemClass := r.itemClass, outDay := r.outDay
                    dueDay := r.dueDay
                    chargedThrough := max r.dueDay (min r.chargedThrough (max r.dueDay v.day))
                    fineAccrued := r.fineAccrued, renewals := r.renewals
                    desk := if r.desk = 0 then .console else .kiosk
                    countedOverdue := decide (r.dueDay < v.day), overridden := false } ∧
              (r.item ∉ s.loanList r.borrower →
                t.loanList r.borrower =
                  (s.loanList r.borrower).takeWhile (fun j => s.dueOf j ≤ r.dueDay) ++ [r.item] ++
                    (s.loanList r.borrower).dropWhile (fun j => s.dueOf j ≤ r.dueDay)) ∧
              t.borrower? r.borrower =
                some
                  { b with
                    loanCount := b.loanCount + 1
                    overdueLoans := b.overdueLoans + if r.dueDay < v.day then 1 else 0 }))))

/-- R92, R138, R139: a step of MARK_ALL sets stale in the DOWNLOADED records of its 64 slots and touches no other
record; a step of PURGE_MARKED removes the stale record of its slot, or with loans or a balance withdraws it and clears
stale. A step before the last keeps the cursor past its slots and the tallies so far; after the last slot the tallies
are the reply (in 4 bytes each: log 14). -/
def Obligations.MarksAndPurgesWalkTheBorrowers : Prop :=
  (∀ (v : Serving) (p : Port) (cursor marked : Nat) (s : State),
    s.served = some (v, p, .markAll cursor marked) → s.TablesAreMaps →
    ∃ t n, exec .markAllStep s = .next t ∧
      n = (s.borrowers.entries.filter fun e =>
        cursor ≤ e.slot ∧ e.slot < cursor + 64 ∧ e.rcd.origin = .downloaded ∧ e.rcd.stale = false).length ∧
      (∀ e ∈ s.borrowers.entries,
        t.borrower? e.rcd.number =
          some
            (if cursor ≤ e.slot ∧ e.slot < cursor + 64 ∧ e.rcd.origin = .downloaded then { e.rcd with stale := true }
            else e.rcd)) ∧
      (∀ m, s.borrower? m = none → t.borrower? m = none) ∧ t.loans.entries = s.loans.entries ∧
      t.items.entries = s.items.entries ∧
      (cursor + 64 < 6144 → (s.port p).inFlight.any (·.started) = true →
        t.portOp p = some (.markAll (cursor + 64) (marked + n))) ∧
      (6144 ≤ cursor + 64 → s.repliesAfter t p .ok {} [.count (marked + n)])) ∧
  ∀ (v : Serving) (p : Port) (cursor removed withdrawn x w : Nat) (s : State),
    s.served = some (v, p, .purgeMarked cursor removed withdrawn) → s.TablesAreMaps → s.TablesLawful →
    (x = (s.borrowers.entries.filter fun e =>
      e.slot = cursor ∧ e.rcd.stale = true ∧ e.rcd.loanCount = 0 ∧ e.rcd.fineBalance = 0).length) →
    (w = (s.borrowers.entries.filter fun e =>
      e.slot = cursor ∧ e.rcd.stale = true ∧ (e.rcd.loanCount ≠ 0 ∨ e.rcd.fineBalance ≠ 0)).length) →
    ∃ t, exec .purgeMarkedStep s = .next t ∧ t.loans.entries = s.loans.entries ∧
      t.items.entries = s.items.entries ∧
      (∀ e ∈ s.borrowers.entries,
        t.borrower? e.rcd.number =
          if e.slot = cursor ∧ e.rcd.stale = true then
            if e.rcd.loanCount = 0 ∧ e.rcd.fineBalance = 0 then none
            else some { e.rcd with serverBlock := 15, stale := false }
          else some e.rcd) ∧
      (∀ m, s.borrower? m = none → t.borrower? m = none) ∧
      (cursor + 1 < 6144 → (s.port p).inFlight.any (·.started) = true →
        t.portOp p = some (.purgeMarked (cursor + 1) (removed + x) (withdrawn + w))) ∧
      (6144 ≤ cursor + 1 → s.repliesAfter t p .ok {} [.count (removed + x), .count (withdrawn + w)])

/-- R140 to R142, R92, R46: the grant of the first step of a clear or rebuild makes its table SUSPECT, with a
TABLE_FAULT of its cause at every port where it was SOUND. A step of TABLE_CLEAR LOANS removes the loans of its 64 slots
from the map and the lists and takes them from their borrowers' counts, the last of them leaving the map empty with sum
0; its second phase zeroes the borrowers' counts, and the last step makes the map SOUND. TABLE_CLEAR ITEMS removes the
entries of its slots. TABLE_REBUILD removes the borrowers of its slots, then places one for every loan of its slots
whose borrower is absent while the map has a free slot, then counts each borrower's loans from its loan list; the map is
SOUND at the end only if no loan was unplaced. A step before the last keeps the cursor past its slots, or the next
phase, with the tallies; after the last step the tallies are the reply (in 4 bytes each: log 14). (That the table is
SUSPECT from the grant: log 19.) -/
def Obligations.ClearsAndRebuildsWalkTheirTables : Prop :=
  (∀ (fl : InFlight) (op : EngineOp) (table : TableId) (cause : FaultCause) (s g : State), s.uplinkPort.inFlight = some fl →
    fl.op = some op → fl.started = false → s.control.part = .night → g = s.grantTo .uplink →
    ((table = .loans ∧ cause = .clearing ∧ ∃ phase cursor x y, op = .clearLoans phase cursor x y) ∨
      (table = .items ∧ cause = .clearing ∧ ∃ cursor x, op = .clearItems cursor x) ∨
      (table = .borrowers ∧ cause = .rebuilding ∧ ∃ phase cursor x y z, op = .rebuildBorrowers phase cursor x y z)) →
    g.serves .uplink = true ∧ g.health table = .suspect ∧ (∀ k, k ≠ table → g.health k = s.health k) ∧
    SameTables s g ∧
    ∀ p, (g.port p).notices =
      if s.health table = .sound then ((s.port p).place (.tableFault table cause none)).notices
      else (s.port p).notices) ∧
  (∀ (v : Serving) (p : Port) (cursor removed : Nat) (es : List LoanRecord) (s : State),
    s.served = some (v, p, .clearLoans 1 cursor removed 0) → s.TablesAreMaps →
    (es = (s.loans.entries.filter fun e => cursor ≤ e.slot ∧ e.slot < cursor + 64).map (·.rcd)) →
    ∃ t, exec .tableClearStep s = .next t ∧ t.items.entries = s.items.entries ∧
      (cursor + 64 < 12288 → ∀ e ∈ s.loans.entries,
        t.loan? e.rcd.item = if cursor ≤ e.slot ∧ e.slot < cursor + 64 then none else some e.rcd) ∧
      (cursor + 64 < 12288 → s.LoanListsLawful →
        ∀ n, t.loanList n = (s.loanList n).filter fun i => es.all fun l => l.item ≠ i) ∧
      (12288 ≤ cursor + 64 → t.loans.entries = [] ∧ t.loans.sum = 0 ∧ t.loanLists = []) ∧
      (∀ n, t.borrower? n = (s.borrower? n).map fun r =>
        { r with
          loanCount := r.loanCount - (es.filter fun l => l.borrower = n).length
          overdueLoans := r.overdueLoans - (es.filter fun l => l.borrower = n ∧ l.countedOverdue = true).length }) ∧
      ((s.port p).inFlight.any (·.started) = true →
        t.portOp p =
          some
            (if cursor + 64 < 12288 then .clearLoans 1 (cursor + 64) (removed + es.length) 0
            else .clearLoans 2 0 (removed + es.length) 0))) ∧
  (∀ (v : Serving) (p : Port) (cursor removed corrected n : Nat) (s : State),
    s.served = some (v, p, .clearLoans 2 cursor removed corrected) → s.TablesAreMaps → s.DeskLoansLawful →
    (n = (s.borrowers.entries.filter fun e =>
      cursor ≤ e.slot ∧ e.slot < cursor + 64 ∧ (e.rcd.loanCount ≠ 0 ∨ e.rcd.overdueLoans ≠ 0)).length) →
    ∃ t, exec .tableClearStep s = .next t ∧ t.loans.entries = s.loans.entries ∧
      t.items.entries = s.items.entries ∧
      (∀ e ∈ s.borrowers.entries,
        t.borrower? e.rcd.number =
          some (if cursor ≤ e.slot ∧ e.slot < cursor + 64 then { e.rcd with loanCount := 0, overdueLoans := 0 }
            else e.rcd)) ∧
      (∀ m, s.borrower? m = none → t.borrower? m = none) ∧
      (cursor + 64 < 6144 → (s.port p).inFlight.any (·.started) = true →
        t.portOp p = some (.clearLoans 2 (cursor + 64) removed (corrected + n)) ∧ t.loans.health = s.loans.health) ∧
      (6144 ≤ cursor + 64 →
        t.loans.health = .sound ∧ s.repliesAfter t p .ok {} [.count removed, .count (corrected + n)])) ∧
  (∀ (v : Serving) (p : Port) (cursor removed n : Nat) (s : State),
    s.served = some (v, p, .clearItems cursor removed) → s.TablesAreMaps → s.DeskLoansLawful →
    (n = (s.items.entries.filter fun e => cursor ≤ e.slot ∧ e.slot < cursor + 64).length) →
    ∃ t, exec .tableClearStep s = .next t ∧ t.loans.entries = s.loans.entries ∧
      t.borrowers.entries = s.borrowers.entries ∧
      (cursor + 64 < 2048 → ∀ e ∈ s.items.entries,
        t.exception? e.rcd.item = if cursor ≤ e.slot ∧ e.slot < cursor + 64 then none else some e.rcd) ∧
      (cursor + 64 < 2048 → (s.port p).inFlight.any (·.started) = true →
        t.portOp p = some (.clearItems (cursor + 64) (removed + n))) ∧
      (2048 ≤ cursor + 64 →
        t.items.entries = [] ∧ t.items.sum = 0 ∧ t.items.health = .sound ∧
        s.repliesAfter t p .ok {} [.count (removed + n)])) ∧
  ∀ (v : Serving) (p : Port) (phase cursor removed inserted unplaced : Nat) (named absent placed : List Nat) (s : State),
    s.served = some (v, p, .rebuildBorrowers phase cursor removed inserted unplaced) → s.TablesAreMaps →
    s.TablesLawful → s.DeskLoansLawful →
    (named = (s.loans.entries.filter fun e => cursor ≤ e.slot ∧ e.slot < cursor + 64).map (·.rcd.borrower)) →
    (absent = named.filter fun n => s.borrower? n = none) →
    (placed = absent.eraseDups.take (6144 - s.borrowers.entries.length)) →
    ∃ t, exec .tableRebuildStep s = .next t ∧ t.loans.entries = s.loans.entries ∧
      t.items.entries = s.items.entries ∧
      (phase = 1 → ∀ n,
        n = (s.borrowers.entries.filter fun e => cursor ≤ e.slot ∧ e.slot < cursor + 64).length →
        (cursor + 64 < 6144 → ∀ e ∈ s.borrowers.entries,
          t.borrower? e.rcd.number = if cursor ≤ e.slot ∧ e.slot < cursor + 64 then none else some e.rcd) ∧
        (6144 ≤ cursor + 64 → t.borrowers.entries = [] ∧ t.borrowers.sum = 0) ∧
        ((s.port p).inFlight.any (·.started) = true →
          t.portOp p =
            some
              (if cursor + 64 < 6144 then .rebuildBorrowers 1 (cursor + 64) (removed + n) 0 0
              else .rebuildBorrowers 2 0 (removed + n) 0 0))) ∧
      (phase = 2 →
        (∀ n,
          t.borrower? n =
            if n ∈ placed then
              some
                { number := n, category := 0, expiryDay := v.day, fineBalance := 0, loanCount := 0
                  overdueLoans := 0, serverBlock := 14, origin := .rebuilt, stale := false }
            else s.borrower? n) ∧
        ∀ x y, x = inserted + placed.length → y = unplaced + (absent.filter fun n => n ∉ placed).length →
          (s.port p).inFlight.any (·.started) = true →
          t.portOp p =
            some
              (if cursor + 64 < 12288 then .rebuildBorrowers 2 (cursor + 64) removed x y
              else .rebuildBorrowers 3 0 removed x y)) ∧
      (phase = 3 →
        (∀ e ∈ s.borrowers.entries,
          t.borrower? e.rcd.number =
            some
              (if cursor ≤ e.slot ∧ e.slot < cursor + 64 then
                { e.rcd with
                  loanCount := (s.loanList e.rcd.number).length
                  overdueLoans :=
                    (((s.loanList e.rcd.number).filterMap s.loan?).filter (·.countedOverdue)).length }
              else e.rcd)) ∧
        (cursor + 64 < 6144 → (s.port p).inFlight.any (·.started) = true →
          t.portOp p = some (.rebuildBorrowers 3 (cursor + 64) removed inserted unplaced) ∧
          t.borrowers.health = s.borrowers.health) ∧
        (6144 ≤ cursor + 64 →
          t.borrowers.health = (if unplaced = 0 then .sound else s.borrowers.health) ∧
          s.repliesAfter t p .ok {} [.count removed, .count inserted, .count unplaced]))

/-! ## The sweep and the Scrubber -/

/-- R60 to R62, R93, R99 to R101: a sweep batch. It applies the loans of its 32 slots in ascending order, and stops before
the first that has something to add where the journal would hold 2,304 entries or more. Every loan applied is marked
overdue past its due day, its borrower's overdue_loans rising with it to at most 255, and, past its grace, charged for
the open days since it was last charged, at its class's rate up to its class's cap, with charged_through moved to the
operation day; the balance takes what it can up to 999,999. Loans and borrowers outside the batch stay. The entries
appended are the first batch's DAY_MARK, or its loss in a full journal, and a FINE for each loan that had something
added, with what reached the balance and SATURATED where that is less. The pass goes on past the batch, REQUESTING below
2,304 entries and STALLED otherwise; a batch that stopped is STALLED at its slot. A STALLED sweep does not wait, and its
yield set is every requester that waited at the end of the batch and has not been granted since (that it keeps the set
while it is STALLED: log 35). The batch that passes the last slot ends the pass with SWEEP_DONE, or begins another. -/
def Obligations.SweepBatchesChargeTheirSlots : Prop :=
  ∀ (v : Serving) (added : LoanRecord → Nat) (m : Nat) (inBatch applied : List (Entry LoanRecord))
      (before : Entry LoanRecord → Nat) (stops : Entry LoanRecord → Bool) (due amount : Entry LoanRecord → Nat)
      (drafts : List EntryDraft) (s : State),
    s.engine.serving = some v → v.who = .sweep → s.TablesAreMaps → s.TablesLawful → s.BalancesLawful →
    s.engine.waiting.sweep = false → s.journal.waitingDates = [] → s.journal.occupancy ≤ 3072 →
    (added = fun l =>
      let terms := v.policy.classOf l.itemClass
      let days := ((List.range (v.day - l.chargedThrough)).filter fun k =>
        v.policy.calendar.isOpen (l.chargedThrough + 1 + k)).length
      if v.day ≤ l.dueDay + terms.grace then 0 else min (days * terms.rate) (terms.cap - l.fineAccrued)) →
    (m = if s.sweep.firstBatch = true ∧ s.journal.occupancy < 3072 then 1 else 0) →
    (inBatch = s.loans.entries.filter fun e => s.sweep.cursor ≤ e.slot ∧ e.slot < s.sweep.cursor + 32) →
    (before = fun e => (inBatch.filter fun x => x.slot < e.slot ∧ 0 < added x.rcd).length) →
    (stops = fun e => decide (0 < added e.rcd ∧ 2304 ≤ s.journal.occupancy + m + before e)) →
    (applied = inBatch.takeWhile fun e => !stops e) →
    (due = fun e =>
      ((applied.filter fun x => x.slot < e.slot ∧ x.rcd.borrower = e.rcd.borrower).map fun x => added x.rcd).sum) →
    (amount = fun e =>
      match s.borrower? e.rcd.borrower with
      | some r => min (added e.rcd) (999999 - (r.fineBalance + due e))
      | none => 0) →
    (drafts =
      (if m = 1 then [{ kind := .dayMark, day := v.day, time := v.time, source := .sweep }] else []) ++
        (applied.filter fun e => 0 < added e.rcd).map fun e =>
          { kind := .fine, day := v.day, time := v.time, source := .sweep, borrower := some e.rcd.borrower
            item := some e.rcd.item, dueDay := some e.rcd.dueDay, amount := some (amount e)
            flags := { saturated := decide (amount e < added e.rcd) } }) →
    ∃ t, exec .sweepBatch s = .next t ∧ t.journal = s.journal.after drafts ∧
      (∀ e ∈ s.loans.entries,
        t.loan? e.rcd.item =
          some
            (if e ∈ applied then
              let marked := { e.rcd with countedOverdue := e.rcd.countedOverdue || decide (e.rcd.dueDay < v.day) }
              if v.day ≤ e.rcd.dueDay + (v.policy.classOf e.rcd.itemClass).grace then marked
              else { marked with fineAccrued := e.rcd.fineAccrued + added e.rcd, chargedThrough := v.day }
            else e.rcd)) ∧
      (∀ n, t.borrower? n = (s.borrower? n).map fun r =>
        let marks := (applied.filter fun e =>
          e.rcd.borrower = n ∧ e.rcd.dueDay < v.day ∧ e.rcd.countedOverdue = false).length
        let sum := ((applied.filter fun e => e.rcd.borrower = n).map fun e => added e.rcd).sum
        { r with
          overdueLoans := if marks = 0 then r.overdueLoans else min (r.overdueLoans + marks) 255
          fineBalance := min (r.fineBalance + sum) 999999 }) ∧
      t.loanLists = s.loanLists ∧ t.items.entries = s.items.entries ∧
      (s.sweep.firstBatch = true → 3072 ≤ s.journal.occupancy →
        t.shares.dayMarkConsole = min (s.shares.dayMarkConsole + 1) 65535 ∧
        t.shares.dayMarkUplink = min (s.shares.dayMarkUplink + 1) 65535) ∧
      (s.sweep.firstBatch = false ∨ s.journal.occupancy < 3072 →
        t.shares.dayMarkConsole = s.shares.dayMarkConsole ∧ t.shares.dayMarkUplink = s.shares.dayMarkUplink) ∧
      (∀ e, inBatch.find? stops = some e →
        t.sweep = { state := .stalled, cursor := e.slot, firstBatch := false }) ∧
      (inBatch.find? stops = none → s.sweep.cursor + 32 < 12288 →
        t.sweep.cursor = s.sweep.cursor + 32 ∧ t.sweep.firstBatch = false ∧
        (s.journal.occupancy + drafts.length < 2304 → t.sweep.state = .requesting ∨ t.sweep.state = .served) ∧
        (2304 ≤ s.journal.occupancy + drafts.length → t.sweep.state = .stalled)) ∧
      (t.sweep.state = .stalled → t.engine.waiting.sweep = false ∧
        ∀ q, (t.engine.yields.get .sweep).get q = (s.engine.waiting.get q && t.engine.waiting.get q)) ∧
      (inBatch.find? stops = none → 12288 ≤ s.sweep.cursor + 32 →
        (s.clock.sweepRepeat = true →
          t.sweep.cursor = 0 ∧ t.sweep.firstBatch = true ∧ t.clock.sweepRepeat = false) ∧
        (s.clock.sweepRepeat = false →
          ((s.port .uplink).notices.length < 7 → .sweepDone v.day ∈ (t.port .uplink).notices) ∧
          ((s.port .console).notices.length < 7 → .sweepDone v.day ∈ (t.port .console).notices) ∧
          (s.clock.sweepPending = false → t.sweep.state = .idle) ∧
          (s.clock.sweepPending = true → s.control.part.running = true →
            t.sweep.cursor = 0 ∧ t.sweep.firstBatch = true ∧ t.clock.sweepPending = false ∧
            (t.sweep.state = .requesting ∨ t.sweep.state = .served))))

/-- R156, R157, R46: a scrub step changes no record. It makes its table SUSPECT where a record's check computed afresh
differs from the one stored with it, or where the pass ends undisturbed and the pass sum differs from the table's sum;
where the table was SOUND, a TABLE_FAULT goes to every port, with cause RECORD_CHECK and the first such slot, or cause
PASS_SUM. A step that finds fewer than 16 occupied slots, or reaches the last slot, ends the pass: the next table's
begins and the pass counter rises. A step that does not carries the pass sum on. A pass begins at the grant of its first
step: its sum is 0 and its table's pass-disturbed mark is clear. Every command that changes a table sets that mark, and
nothing else clears it. -/
def Obligations.ScrubStepsCompareChecks : Prop :=
  (∀ (v : Serving) (xs : List Checked) (s : State), s.engine.serving = some v → v.who = .scrubber →
    xs = ((s.checkedSlots s.scrub.table).filter fun x => s.scrub.cursor ≤ x.slot).take 16 →
    ∃ t, exec .scrubStep s = .next t ∧
      t.borrowers.entries = s.borrowers.entries ∧ t.borrowers.sum = s.borrowers.sum ∧
      t.loans.entries = s.loans.entries ∧ t.loans.sum = s.loans.sum ∧ t.loanLists = s.loanLists ∧
      t.items.entries = s.items.entries ∧ t.items.sum = s.items.sum ∧ t.policy.data = s.policy.data ∧
      t.policy.checks = s.policy.checks ∧ t.policy.sum = s.policy.sum ∧ t.clock = s.clock ∧
      (∀ tbl, s.health tbl = .suspect → t.health tbl = .suspect) ∧
      ((∃ x ∈ xs, x.computed ≠ x.stored) → t.health s.scrub.table = .suspect) ∧
      (∀ x, (xs.find? fun x => x.computed ≠ x.stored) = some x → s.health s.scrub.table = .sound →
        ∀ p, (s.port p).notices.length < 8 →
          .tableFault s.scrub.table .recordCheck (some x.slot) ∈ (t.port p).notices) ∧
      ((xs.length < 16 ∨ ∃ x, xs.getLast? = some x ∧ tableCapacity s.scrub.table ≤ x.slot + 1) →
        t.scrub.table = s.scrub.table.next ∧ t.scrub.cursor = 0 ∧
        t.scrub.passes = (s.scrub.passes + 1) % 65536 ∧
        (t.serves .scrubber = true → t.scrub.passSum = 0 ∧ ∀ tbl, t.scrub.isDisturbed tbl =
          if tbl = s.scrub.table.next then false else s.scrub.isDisturbed tbl) ∧
        (t.serves .scrubber = false → t.scrub.disturbed = s.scrub.disturbed) ∧
        (s.scrub.isDisturbed s.scrub.table = false →
          s.scrub.passSum + (xs.map fun x => x.computed.setWidth 32).sum ≠ s.tableSum s.scrub.table →
          t.health s.scrub.table = .suspect ∧
          ((∀ x ∈ xs, x.computed = x.stored) → s.health s.scrub.table = .sound →
            ∀ p, (s.port p).notices.length < 8 →
              .tableFault s.scrub.table .passSum none ∈ (t.port p).notices))) ∧
      (∀ x, xs.length = 16 → xs.getLast? = some x → x.slot + 1 < tableCapacity s.scrub.table →
        t.scrub.table = s.scrub.table ∧ t.scrub.cursor = x.slot + 1 ∧ t.scrub.passes = s.scrub.passes ∧
        t.scrub.passSum = s.scrub.passSum + (xs.map fun x => x.computed.setWidth 32).sum ∧
        t.scrub.disturbed = s.scrub.disturbed)) ∧
  ∀ (c : Instr) (tbl : TableId) (s t : State), s.control.part.running = true → exec c s = .next t →
    t.control.part.running = true → s.Changes t tbl ∨ s.scrub.isDisturbed tbl = true →
    t.scrub.isDisturbed tbl = true ∨
      (t.serves .scrubber = true ∧ t.scrub.table = tbl ∧ t.scrub.cursor = 0 ∧ t.scrub.passSum = 0)

/-! ## Supply, reset and start-up -/

/-- R96, R151, R152, R153, R155: a supply fail or a reset enters RETAINING. Everything volatile is lost: the wands, the
desk contexts but for their presence states, the spoolers, the ports, the engine, the sweep with its marks, the
Scrubber, the journal's cursor, window and waiting list, the counters, the controller's opening-pending mark, timers and
battery-low flag. The tables, the policy, the journal's entries and the clock are kept. A commit that has begun
completes first, whatever is served: the records, the policy and the journal's entries are those that its own commit
command leaves, and so are the healths but where that command goes on to grant a clear or a rebuild its first step. One
that has not begun leaves no trace. A start-up that is interrupted is one that has not begun a commit: the healths that
its comparisons have changed are kept, and the next start-up has compared nothing (R153). A second cause changes its
line alone. In RETAINING with the supply failed the battery's fall below the hold threshold clears the latch. The part
leaves for STARTING once the supply is valid and the reset released. A battery sample outside RETAINING and STARTING
sets or clears the flag, with BATTERY_LOW at each downward crossing. (Whether a commit has begun is the command's
operand: log 13; the comparisons are made by the milliseconds in STARTING: log 38; the last start-up kind is kept: log
37. The start-up values that RETAINING holds, and that the presence states follow their inputs there: log 26.) -/
def Obligations.RetainingKeepsTheTables : Prop :=
  (∀ (begun valid asserted : Bool) (c : Instr) (s : State), s.control.part ≠ .retaining →
    (c = .supplyFail begun ∧ s.control.supplyValid = true ∧ valid = false ∧ asserted = s.control.resetAsserted) ∨
      (c = .resetAssert begun ∧ s.control.resetAsserted = false ∧ valid = s.control.supplyValid ∧ asserted = true) →
    ∃ x, exec c s = .next x ∧
      x.control =
        { s.control with
          part := .retaining
          supplyValid := valid
          resetAsserted := asserted
          openingPending := false
          drainTimer := none
          drainEnded := false
          batteryLow := false
          batteryTimer := none
          startUp := { compared := 0, found := [] } } ∧
      x.engine = Engine.start ∧ x.sweep = Sweep.start ∧ x.scrub = Scrub.start ∧ x.shares = Shares.start ∧
      (∀ p, x.port p = PortState.start) ∧
      (∀ d, (x.desk d).wand = Wand.start ∧ (x.desk d).spooler = Spooler.start ∧
        (x.desk d).ctx =
          { bound := none, idle := none, presence := (s.desk d).ctx.presence, queue := [], lastTaken := none
            openSlip := none, gather := none, overflow := false, readEmpty := false } ∧
        (x.desk d).lines.wand = (s.desk d).lines.wand ∧ (x.desk d).lines.presence = (s.desk d).lines.presence ∧
        (x.desk d).lines.paperOut = (s.desk d).lines.paperOut) ∧
      x.clock = { s.clock with sweepPending := false, sweepRepeat := false } ∧
      (begun = false ∨ s.engine.serving = none → s.journal.waitingDates = [] →
        x.policy = s.policy ∧ x.borrowers = s.borrowers ∧ x.loans = s.loans ∧ x.loanLists = s.loanLists ∧
        x.items = s.items ∧ (∀ d, (x.desk d).lines = (s.desk d).lines) ∧
        x.journal = { s.journal with cursor := s.journal.head, window := 0, waitingDates := [] }) ∧
      (begun = true → ∀ r,
        ((∃ v p op, s.served = some (v, p, op) ∧ exec op.commitCommand s = .next r) ∨
          (s.serves .sweep = true ∧ exec .sweepBatch s = .next r) ∨
          (s.serves .scrubber = true ∧ exec .scrubStep s = .next r)) →
        s.journal.waitingDates = [] ∨ r ≠ s →
        SameRecords r x ∧ x.policy = r.policy ∧
        x.journal = { r.journal with cursor := r.journal.head, window := 0, waitingDates := [] } ∧
        (∀ tbl, x.health tbl = .suspect → r.health tbl = .suspect) ∧
        ((∀ p, s.engine.waiting.get (portRequester p) = false) →
          (∀ p fl, (s.port p).inFlight = some fl → fl.started = true) →
          ∀ tbl, x.health tbl = r.health tbl))) ∧
  (∀ (begun : Bool) (s : State), s.control.part = .retaining →
    exec (.supplyFail begun) s = .next { s with control := { s.control with supplyValid := false } } ∧
    exec (.resetAssert begun) s = .next { s with control := { s.control with resetAsserted := true } } ∧
    (s.control.supplyValid = false →
      exec .batteryBelowHold s = .next { s with control := { s.control with latch := false } }) ∧
    (s.control.supplyValid = true → exec .batteryBelowHold s = .next s) ∧
    (s.control.resetAsserted = true →
      exec .supplyValid s = .next { s with control := { s.control with supplyValid := true } }) ∧
    (s.control.supplyValid = false →
      exec .resetRelease s = .next { s with control := { s.control with resetAsserted := false } })) ∧
  (∀ (c : Instr) (s : State), s.control.part = .retaining →
    (c = .supplyValid ∧ s.control.resetAsserted = false) ∨ (c = .resetRelease ∧ s.control.supplyValid = true) →
    ∃ t, exec c s = .next t ∧
      t.control =
        { s.control with
          part := .starting, supplyValid := true, resetAsserted := false, startUp := { compared := 0, found := [] } } ∧
      (∀ p, t.port p = PortState.start) ∧
      (∀ d, t.desk d =
        { s.desk d with ctx := { (s.desk d).ctx with presence := (s.desk d).lines.presence } }) ∧
      t.clock = s.clock ∧ t.policy = s.policy ∧ t.borrowers = s.borrowers ∧ t.loans = s.loans ∧
      t.loanLists = s.loanLists ∧ t.items = s.items ∧ t.journal = s.journal ∧ t.engine = s.engine ∧
      t.sweep = s.sweep ∧ t.scrub = s.scrub ∧ t.shares = s.shares ∧ t.pending = s.pending) ∧
  ∀ (below : Bool) (s : State), s.control.part.running = true →
    exec (.batterySample below) s =
      .next (
        let t := { s with control := { s.control with batteryLow := below, batteryTimer := some 60 } }
        if below = true ∧ s.control.batteryLow = false then
          (t.modPort .console (·.place .batteryLow)).modPort .uplink (·.place .batteryLow)
        else t)

/-- R46, R153, R154, R98, R158: start-up. With the latch set each table that disagrees with its sum, of those that the
start-up has still to compare, becomes SUSPECT, and no table recovers; the part enters OPEN on an open day within hours
and otherwise NIGHT; the notices stand in order: a TABLE_FAULT of each SUSPECT table at every port, with cause
SUM_AT_START where it became so in this start-up and RETAINED otherwise, JOURNAL_LEVEL at the Console and Uplink ports
where the level is not CALM (R125), and PART_STATE; and the sweep is granted its first batch with the Scrubber waiting.
With the latch clear the retained state is initialised, the part enters NIGHT and PART_STATE is placed alone, but for a
low battery. (The order of the TABLE_FAULT notices among themselves, and the place of a printer's NO_PAPER: log 20. When
the last start-up kind changes: log 37; that some comparisons may have been made before: log 38. The battery reading is
the command's operand: log 21. The sweep is granted before the Scrubber waits: log 20. Its pass begins with the date
unset too, as R153 says, against R98's last sentence: log 33.) -/
def Obligations.StartUpsEnterService : Prop :=
  ∀ (below : Bool) (s : State), s.control.part = .starting → s.engine = Engine.start → s.sweep = Sweep.start →
    s.control.openingPending = false → s.control.batteryLow = false →
    (∀ d, (s.desk d).spooler.spool = [] ∧ (s.desk d).ctx.openSlip = none) →
    (s.control.latch = true →
      ∃ t, exec (.startupIntact below) s = .next t ∧
        t.control.part =
          (if s.clock.dateUnset = false ∧ s.policy.data.calendar.isOpen s.clock.today = true ∧
            s.policy.data.desks.opening ≤ s.clock.time ∧ s.clock.time < s.policy.data.desks.closing then .open
          else .night) ∧
        t.control.startKind = .intact ∧ t.control.latch = true ∧ t.control.batteryLow = below ∧
        t.control.batteryTimer = some 60 ∧ t.borrowers.entries = s.borrowers.entries ∧
        t.loans.entries = s.loans.entries ∧ t.loanLists = s.loanLists ∧ t.items.entries = s.items.entries ∧
        t.policy.data = s.policy.data ∧ t.journal = s.journal ∧ t.clock.today = s.clock.today ∧
        t.clock.time = s.clock.time ∧
        (∀ tbl, t.health tbl = .suspect ↔ s.health tbl = .suspect ∨
          (tbl ∈ [TableId.borrowers, .loans, .items, .policy].drop s.control.startUp.compared ∧ s.agrees tbl = false)) ∧
        t.control.startUp = { compared := 0, found := [] } ∧
        t.sweep = { state := .served, cursor := 0, firstBatch := true } ∧ t.serves .sweep = true ∧
        t.engine.waiting.scrubber = true ∧
        ∀ p, t.port p = List.foldl PortState.place (s.port p) (
          (([TableId.borrowers, .loans, .items, .policy].filter fun tbl => t.health tbl = .suspect).map fun tbl =>
            .tableFault tbl
              (if tbl ∈ s.control.startUp.found ∨ s.health tbl = .sound then .sumAtStart else .retained) none) ++
          (if p ≠ .kiosk ∧ 1536 ≤ s.journal.occupancy then
            [.journalLevel (levelOf s.journal.occupancy) s.journal.occupancy] else []) ++
          (if t.control.part = .open ∧ (portDesk p).any (fun d => (s.desk d).lines.paperOut) = true then
            [.printerState .noPaper 0] else []) ++
          [.partState t.control.part] ++
          (if p ≠ .kiosk ∧ below = true then [.batteryLow] else []))) ∧
    (s.control.latch = false →
      ∃ t, exec (.startupLost below) s = .next t ∧
        t.control.part = .night ∧ t.control.startKind = .lost ∧ t.control.latch = true ∧
        t.control.batteryLow = below ∧ t.control.batteryTimer = some 60 ∧
        t.borrowers = { entries := [], sum := 0, health := .sound } ∧
        t.loans = { entries := [], sum := 0, health := .sound } ∧ t.loanLists = [] ∧
        t.items = { entries := [], sum := 0, health := .sound } ∧ t.policy = defaultPolicy ∧
        t.journal =
          { entries := [{ sequence := 1, fields := restartDraft, check := entryCheck restartDraft 1 }], head := 1
            cursor := 1, tail := 2, window := 0, waitingDates := [] } ∧
        t.clock.today = 0 ∧ t.clock.time = 0 ∧ t.clock.dateUnset = true ∧ t.clock.sweepPending = false ∧
        t.clock.sweepRepeat = false ∧ t.serves .scrubber = true ∧
        ∀ p, t.port p =
          List.foldl PortState.place (s.port p)
            (.partState .night :: if p ≠ .kiosk ∧ below = true then [.batteryLow] else []))
end

