-- ==== Sys2Proof/Laws/State.lean ====
section
/-! SUPPORT. The small lemmas of the state's updates: what each named update of a field, a desk or a port leaves in every
other field, true by unfolding. -/

namespace Sys2Proof.Machine

/-! ## Desks and ports -/

@[simp] theorem State.desk_console (s : State) : s.desk .console = s.console := rfl
@[simp] theorem State.desk_kiosk (s : State) : s.desk .kiosk = s.kiosk := rfl
@[simp] theorem State.port_console (s : State) : s.port .console = s.consolePort := rfl
@[simp] theorem State.port_kiosk (s : State) : s.port .kiosk = s.kioskPort := rfl
@[simp] theorem State.port_uplink (s : State) : s.port .uplink = s.uplinkPort := rfl

@[simp] theorem State.modDesk_frame (s : State) (d : Desk) (f : DeskSide → DeskSide) :
    (s.modDesk d f).control = s.control ∧ (s.modDesk d f).clock = s.clock ∧ (s.modDesk d f).policy = s.policy ∧
    (s.modDesk d f).borrowers = s.borrowers ∧ (s.modDesk d f).loans = s.loans ∧
    (s.modDesk d f).loanLists = s.loanLists ∧ (s.modDesk d f).items = s.items ∧
    (s.modDesk d f).engine = s.engine ∧ (s.modDesk d f).sweep = s.sweep ∧ (s.modDesk d f).scrub = s.scrub ∧
    (s.modDesk d f).journal = s.journal ∧ (s.modDesk d f).consolePort = s.consolePort ∧
    (s.modDesk d f).kioskPort = s.kioskPort ∧ (s.modDesk d f).uplinkPort = s.uplinkPort ∧
    (s.modDesk d f).shares = s.shares ∧ (s.modDesk d f).pending = s.pending := by
  cases d <;> simp [State.modDesk]

/-- A desk read after an update of a desk. -/
theorem State.modDesk_desk (s : State) (d e : Desk) (f : DeskSide → DeskSide) :
    (s.modDesk d f).desk e = if e = d then f (s.desk d) else s.desk e := by
  cases d <;> cases e <;> rfl

@[simp] theorem State.modDesk_desk_self (s : State) (d : Desk) (f : DeskSide → DeskSide) :
    (s.modDesk d f).desk d = f (s.desk d) := by
  cases d <;> rfl

@[simp] theorem State.modDesk_port (s : State) (d : Desk) (f : DeskSide → DeskSide) (p : Port) :
    (s.modDesk d f).port p = s.port p := by
  cases d <;> cases p <;> rfl

@[simp] theorem State.modWand_frame (s : State) (d : Desk) (f : Wand → Wand) :
    (s.modWand d f).control = s.control ∧ (s.modWand d f).clock = s.clock ∧ (s.modWand d f).policy = s.policy ∧
    (s.modWand d f).borrowers = s.borrowers ∧ (s.modWand d f).loans = s.loans ∧
    (s.modWand d f).loanLists = s.loanLists ∧ (s.modWand d f).items = s.items ∧
    (s.modWand d f).engine = s.engine ∧ (s.modWand d f).sweep = s.sweep ∧ (s.modWand d f).scrub = s.scrub ∧
    (s.modWand d f).journal = s.journal ∧ (s.modWand d f).consolePort = s.consolePort ∧
    (s.modWand d f).kioskPort = s.kioskPort ∧ (s.modWand d f).uplinkPort = s.uplinkPort ∧
    (s.modWand d f).shares = s.shares ∧ (s.modWand d f).pending = s.pending := by
  simp [State.modWand]

@[simp] theorem State.modWand_desk_self (s : State) (d : Desk) (f : Wand → Wand) :
    (s.modWand d f).desk d = { s.desk d with wand := f (s.desk d).wand } := by
  cases d <;> rfl

/-- A desk read after an update of a desk's wand. -/
theorem State.modWand_desk (s : State) (d e : Desk) (f : Wand → Wand) :
    (s.modWand d f).desk e = if e = d then { s.desk d with wand := f (s.desk d).wand } else s.desk e := by
  cases d <;> cases e <;> rfl

@[simp] theorem State.modWand_port (s : State) (d : Desk) (f : Wand → Wand) (p : Port) : (s.modWand d f).port p = s.port p := by
  cases d <;> cases p <;> rfl

@[simp] theorem State.modCtx_frame (s : State) (d : Desk) (f : DeskContext → DeskContext) :
    (s.modCtx d f).control = s.control ∧ (s.modCtx d f).clock = s.clock ∧ (s.modCtx d f).policy = s.policy ∧
    (s.modCtx d f).borrowers = s.borrowers ∧ (s.modCtx d f).loans = s.loans ∧
    (s.modCtx d f).loanLists = s.loanLists ∧ (s.modCtx d f).items = s.items ∧ (s.modCtx d f).engine = s.engine ∧
    (s.modCtx d f).sweep = s.sweep ∧ (s.modCtx d f).scrub = s.scrub ∧ (s.modCtx d f).journal = s.journal ∧
    (s.modCtx d f).consolePort = s.consolePort ∧ (s.modCtx d f).kioskPort = s.kioskPort ∧
    (s.modCtx d f).uplinkPort = s.uplinkPort ∧ (s.modCtx d f).shares = s.shares ∧
    (s.modCtx d f).pending = s.pending := by
  simp [State.modCtx]

@[simp] theorem State.modCtx_desk_self (s : State) (d : Desk) (f : DeskContext → DeskContext) :
    (s.modCtx d f).desk d = { s.desk d with ctx := f (s.desk d).ctx } := by
  cases d <;> rfl

/-- A desk read after an update of a desk's ctx. -/
theorem State.modCtx_desk (s : State) (d e : Desk) (f : DeskContext → DeskContext) :
    (s.modCtx d f).desk e = if e = d then { s.desk d with ctx := f (s.desk d).ctx } else s.desk e := by
  cases d <;> cases e <;> rfl

@[simp] theorem State.modCtx_port (s : State) (d : Desk) (f : DeskContext → DeskContext) (p : Port) : (s.modCtx d f).port p = s.port p := by
  cases d <;> cases p <;> rfl

@[simp] theorem State.modSpooler_frame (s : State) (d : Desk) (f : Spooler → Spooler) :
    (s.modSpooler d f).control = s.control ∧ (s.modSpooler d f).clock = s.clock ∧
    (s.modSpooler d f).policy = s.policy ∧ (s.modSpooler d f).borrowers = s.borrowers ∧
    (s.modSpooler d f).loans = s.loans ∧ (s.modSpooler d f).loanLists = s.loanLists ∧
    (s.modSpooler d f).items = s.items ∧ (s.modSpooler d f).engine = s.engine ∧
    (s.modSpooler d f).sweep = s.sweep ∧ (s.modSpooler d f).scrub = s.scrub ∧
    (s.modSpooler d f).journal = s.journal ∧ (s.modSpooler d f).consolePort = s.consolePort ∧
    (s.modSpooler d f).kioskPort = s.kioskPort ∧ (s.modSpooler d f).uplinkPort = s.uplinkPort ∧
    (s.modSpooler d f).shares = s.shares ∧ (s.modSpooler d f).pending = s.pending := by
  simp [State.modSpooler]

@[simp] theorem State.modSpooler_desk_self (s : State) (d : Desk) (f : Spooler → Spooler) :
    (s.modSpooler d f).desk d = { s.desk d with spooler := f (s.desk d).spooler } := by
  cases d <;> rfl

/-- A desk read after an update of a desk's spooler. -/
theorem State.modSpooler_desk (s : State) (d e : Desk) (f : Spooler → Spooler) :
    (s.modSpooler d f).desk e = if e = d then { s.desk d with spooler := f (s.desk d).spooler } else s.desk e := by
  cases d <;> cases e <;> rfl

@[simp] theorem State.modSpooler_port (s : State) (d : Desk) (f : Spooler → Spooler) (p : Port) : (s.modSpooler d f).port p = s.port p := by
  cases d <;> cases p <;> rfl

@[simp] theorem State.modLines_frame (s : State) (d : Desk) (f : DeskLines → DeskLines) :
    (s.modLines d f).control = s.control ∧ (s.modLines d f).clock = s.clock ∧
    (s.modLines d f).policy = s.policy ∧ (s.modLines d f).borrowers = s.borrowers ∧
    (s.modLines d f).loans = s.loans ∧ (s.modLines d f).loanLists = s.loanLists ∧
    (s.modLines d f).items = s.items ∧ (s.modLines d f).engine = s.engine ∧ (s.modLines d f).sweep = s.sweep ∧
    (s.modLines d f).scrub = s.scrub ∧ (s.modLines d f).journal = s.journal ∧
    (s.modLines d f).consolePort = s.consolePort ∧ (s.modLines d f).kioskPort = s.kioskPort ∧
    (s.modLines d f).uplinkPort = s.uplinkPort ∧ (s.modLines d f).shares = s.shares ∧
    (s.modLines d f).pending = s.pending := by
  simp [State.modLines]

@[simp] theorem State.modLines_desk_self (s : State) (d : Desk) (f : DeskLines → DeskLines) :
    (s.modLines d f).desk d = { s.desk d with lines := f (s.desk d).lines } := by
  cases d <;> rfl

/-- A desk read after an update of a desk's lines. -/
theorem State.modLines_desk (s : State) (d e : Desk) (f : DeskLines → DeskLines) :
    (s.modLines d f).desk e = if e = d then { s.desk d with lines := f (s.desk d).lines } else s.desk e := by
  cases d <;> cases e <;> rfl

@[simp] theorem State.modLines_port (s : State) (d : Desk) (f : DeskLines → DeskLines) (p : Port) : (s.modLines d f).port p = s.port p := by
  cases d <;> cases p <;> rfl

@[simp] theorem State.modPort_frame (s : State) (p : Port) (f : PortState → PortState) :
    (s.modPort p f).control = s.control ∧ (s.modPort p f).clock = s.clock ∧ (s.modPort p f).policy = s.policy ∧
    (s.modPort p f).borrowers = s.borrowers ∧ (s.modPort p f).loans = s.loans ∧
    (s.modPort p f).loanLists = s.loanLists ∧ (s.modPort p f).items = s.items ∧
    (s.modPort p f).engine = s.engine ∧ (s.modPort p f).sweep = s.sweep ∧ (s.modPort p f).scrub = s.scrub ∧
    (s.modPort p f).journal = s.journal ∧ (s.modPort p f).console = s.console ∧ (s.modPort p f).kiosk = s.kiosk ∧
    (s.modPort p f).shares = s.shares ∧ (s.modPort p f).pending = s.pending := by
  cases p <;> simp [State.modPort]

/-- A port read after an update of a port. -/
theorem State.modPort_port (s : State) (p q : Port) (f : PortState → PortState) :
    (s.modPort p f).port q = if q = p then f (s.port p) else s.port q := by
  cases p <;> cases q <;> rfl

@[simp] theorem State.modPort_port_self (s : State) (p : Port) (f : PortState → PortState) :
    (s.modPort p f).port p = f (s.port p) := by
  cases p <;> rfl

@[simp] theorem State.modPort_desk (s : State) (p : Port) (f : PortState → PortState) (d : Desk) :
    (s.modPort p f).desk d = s.desk d := by
  cases p <;> cases d <;> rfl

/-- Two updates of one port are one. -/
@[simp] theorem State.modPort_modPort (s : State) (p : Port) (f g : PortState → PortState) :
    (s.modPort p f).modPort p g = s.modPort p fun q => g (f q) := by
  cases p <;> rfl

/-! ## The controller, the engine and the journal -/

@[simp] theorem State.modControl_frame (s : State) (f : Control → Control) :
    (s.modControl f).clock = s.clock ∧ (s.modControl f).policy = s.policy ∧
    (s.modControl f).borrowers = s.borrowers ∧ (s.modControl f).loans = s.loans ∧
    (s.modControl f).loanLists = s.loanLists ∧ (s.modControl f).items = s.items ∧
    (s.modControl f).engine = s.engine ∧ (s.modControl f).sweep = s.sweep ∧ (s.modControl f).scrub = s.scrub ∧
    (s.modControl f).journal = s.journal ∧ (s.modControl f).console = s.console ∧
    (s.modControl f).kiosk = s.kiosk ∧ (s.modControl f).consolePort = s.consolePort ∧
    (s.modControl f).kioskPort = s.kioskPort ∧ (s.modControl f).uplinkPort = s.uplinkPort ∧
    (s.modControl f).shares = s.shares ∧ (s.modControl f).pending = s.pending := by
  simp [State.modControl]

@[simp] theorem State.modControl_control (s : State) (f : Control → Control) : (s.modControl f).control = f s.control := rfl

@[simp] theorem State.modControl_desk (s : State) (f : Control → Control) (d : Desk) : (s.modControl f).desk d = s.desk d := by
  cases d <;> rfl

@[simp] theorem State.modControl_port (s : State) (f : Control → Control) (p : Port) : (s.modControl f).port p = s.port p := by
  cases p <;> rfl

@[simp] theorem State.modEngine_frame (s : State) (f : Engine → Engine) :
    (s.modEngine f).control = s.control ∧ (s.modEngine f).clock = s.clock ∧ (s.modEngine f).policy = s.policy ∧
    (s.modEngine f).borrowers = s.borrowers ∧ (s.modEngine f).loans = s.loans ∧
    (s.modEngine f).loanLists = s.loanLists ∧ (s.modEngine f).items = s.items ∧ (s.modEngine f).sweep = s.sweep ∧
    (s.modEngine f).scrub = s.scrub ∧ (s.modEngine f).journal = s.journal ∧ (s.modEngine f).console = s.console ∧
    (s.modEngine f).kiosk = s.kiosk ∧ (s.modEngine f).consolePort = s.consolePort ∧
    (s.modEngine f).kioskPort = s.kioskPort ∧ (s.modEngine f).uplinkPort = s.uplinkPort ∧
    (s.modEngine f).shares = s.shares ∧ (s.modEngine f).pending = s.pending := by
  simp [State.modEngine]

@[simp] theorem State.modEngine_engine (s : State) (f : Engine → Engine) : (s.modEngine f).engine = f s.engine := rfl

@[simp] theorem State.modEngine_desk (s : State) (f : Engine → Engine) (d : Desk) : (s.modEngine f).desk d = s.desk d := by
  cases d <;> rfl

@[simp] theorem State.modEngine_port (s : State) (f : Engine → Engine) (p : Port) : (s.modEngine f).port p = s.port p := by
  cases p <;> rfl

@[simp] theorem State.modJournal_frame (s : State) (f : Journal → Journal) :
    (s.modJournal f).control = s.control ∧ (s.modJournal f).clock = s.clock ∧
    (s.modJournal f).policy = s.policy ∧ (s.modJournal f).borrowers = s.borrowers ∧
    (s.modJournal f).loans = s.loans ∧ (s.modJournal f).loanLists = s.loanLists ∧
    (s.modJournal f).items = s.items ∧ (s.modJournal f).engine = s.engine ∧ (s.modJournal f).sweep = s.sweep ∧
    (s.modJournal f).scrub = s.scrub ∧ (s.modJournal f).console = s.console ∧ (s.modJournal f).kiosk = s.kiosk ∧
    (s.modJournal f).consolePort = s.consolePort ∧ (s.modJournal f).kioskPort = s.kioskPort ∧
    (s.modJournal f).uplinkPort = s.uplinkPort ∧ (s.modJournal f).shares = s.shares ∧
    (s.modJournal f).pending = s.pending := by
  simp [State.modJournal]

@[simp] theorem State.modJournal_journal (s : State) (f : Journal → Journal) : (s.modJournal f).journal = f s.journal := rfl

@[simp] theorem State.modJournal_desk (s : State) (f : Journal → Journal) (d : Desk) : (s.modJournal f).desk d = s.desk d := by
  cases d <;> rfl

@[simp] theorem State.modJournal_port (s : State) (f : Journal → Journal) (p : Port) : (s.modJournal f).port p = s.port p := by
  cases p <;> rfl

@[simp] theorem State.setPart_frame (s : State) (st : PartState) :
    (s.setPart st).clock = s.clock ∧ (s.setPart st).policy = s.policy ∧ (s.setPart st).borrowers = s.borrowers ∧
    (s.setPart st).loans = s.loans ∧ (s.setPart st).loanLists = s.loanLists ∧ (s.setPart st).items = s.items ∧
    (s.setPart st).engine = s.engine ∧ (s.setPart st).sweep = s.sweep ∧ (s.setPart st).scrub = s.scrub ∧
    (s.setPart st).journal = s.journal ∧ (s.setPart st).console = s.console ∧ (s.setPart st).kiosk = s.kiosk ∧
    (s.setPart st).consolePort = s.consolePort ∧ (s.setPart st).kioskPort = s.kioskPort ∧
    (s.setPart st).uplinkPort = s.uplinkPort ∧ (s.setPart st).shares = s.shares ∧
    (s.setPart st).pending = s.pending := by
  simp [State.setPart]

@[simp] theorem State.setPart_control (s : State) (st : PartState) :
    (s.setPart st).control = { s.control with part := st } := rfl

@[simp] theorem State.setPart_desk (s : State) (st : PartState) (d : Desk) : (s.setPart st).desk d = s.desk d := by
  cases d <;> rfl

@[simp] theorem State.setPart_port (s : State) (st : PartState) (p : Port) : (s.setPart st).port p = s.port p := by
  cases p <;> rfl

/-! ## Whole fields -/

@[simp] theorem State.with_control_desk (s : State) (x : Control) (d : Desk) :
    { s with control := x }.desk d = s.desk d := by
  cases d <;> rfl

@[simp] theorem State.with_clock_desk (s : State) (x : Clock) (d : Desk) :
    { s with clock := x }.desk d = s.desk d := by
  cases d <;> rfl

@[simp] theorem State.with_policy_desk (s : State) (x : PolicyStore) (d : Desk) :
    { s with policy := x }.desk d = s.desk d := by
  cases d <;> rfl

@[simp] theorem State.with_borrowers_desk (s : State) (x : Table BorrowerRecord) (d : Desk) :
    { s with borrowers := x }.desk d = s.desk d := by
  cases d <;> rfl

@[simp] theorem State.with_loans_desk (s : State) (x : Table LoanRecord) (d : Desk) :
    { s with loans := x }.desk d = s.desk d := by
  cases d <;> rfl

@[simp] theorem State.with_loanLists_desk (s : State) (x : List (Nat × List Nat)) (d : Desk) :
    { s with loanLists := x }.desk d = s.desk d := by
  cases d <;> rfl

@[simp] theorem State.with_items_desk (s : State) (x : Table ExceptionRecord) (d : Desk) :
    { s with items := x }.desk d = s.desk d := by
  cases d <;> rfl

@[simp] theorem State.with_engine_desk (s : State) (x : Engine) (d : Desk) :
    { s with engine := x }.desk d = s.desk d := by
  cases d <;> rfl

@[simp] theorem State.with_sweep_desk (s : State) (x : Sweep) (d : Desk) :
    { s with sweep := x }.desk d = s.desk d := by
  cases d <;> rfl

@[simp] theorem State.with_scrub_desk (s : State) (x : Scrub) (d : Desk) :
    { s with scrub := x }.desk d = s.desk d := by
  cases d <;> rfl

@[simp] theorem State.with_journal_desk (s : State) (x : Journal) (d : Desk) :
    { s with journal := x }.desk d = s.desk d := by
  cases d <;> rfl

@[simp] theorem State.with_consolePort_desk (s : State) (x : PortState) (d : Desk) :
    { s with consolePort := x }.desk d = s.desk d := by
  cases d <;> rfl

@[simp] theorem State.with_kioskPort_desk (s : State) (x : PortState) (d : Desk) :
    { s with kioskPort := x }.desk d = s.desk d := by
  cases d <;> rfl

@[simp] theorem State.with_uplinkPort_desk (s : State) (x : PortState) (d : Desk) :
    { s with uplinkPort := x }.desk d = s.desk d := by
  cases d <;> rfl

@[simp] theorem State.with_shares_desk (s : State) (x : Shares) (d : Desk) :
    { s with shares := x }.desk d = s.desk d := by
  cases d <;> rfl

@[simp] theorem State.with_pending_desk (s : State) (x : List Instr) (d : Desk) :
    { s with pending := x }.desk d = s.desk d := by
  cases d <;> rfl

@[simp] theorem State.with_control_port (s : State) (x : Control) (p : Port) :
    { s with control := x }.port p = s.port p := by
  cases p <;> rfl

@[simp] theorem State.with_clock_port (s : State) (x : Clock) (p : Port) :
    { s with clock := x }.port p = s.port p := by
  cases p <;> rfl

@[simp] theorem State.with_policy_port (s : State) (x : PolicyStore) (p : Port) :
    { s with policy := x }.port p = s.port p := by
  cases p <;> rfl

@[simp] theorem State.with_borrowers_port (s : State) (x : Table BorrowerRecord) (p : Port) :
    { s with borrowers := x }.port p = s.port p := by
  cases p <;> rfl

@[simp] theorem State.with_loans_port (s : State) (x : Table LoanRecord) (p : Port) :
    { s with loans := x }.port p = s.port p := by
  cases p <;> rfl

@[simp] theorem State.with_loanLists_port (s : State) (x : List (Nat × List Nat)) (p : Port) :
    { s with loanLists := x }.port p = s.port p := by
  cases p <;> rfl

@[simp] theorem State.with_items_port (s : State) (x : Table ExceptionRecord) (p : Port) :
    { s with items := x }.port p = s.port p := by
  cases p <;> rfl

@[simp] theorem State.with_engine_port (s : State) (x : Engine) (p : Port) :
    { s with engine := x }.port p = s.port p := by
  cases p <;> rfl

@[simp] theorem State.with_sweep_port (s : State) (x : Sweep) (p : Port) :
    { s with sweep := x }.port p = s.port p := by
  cases p <;> rfl

@[simp] theorem State.with_scrub_port (s : State) (x : Scrub) (p : Port) :
    { s with scrub := x }.port p = s.port p := by
  cases p <;> rfl

@[simp] theorem State.with_journal_port (s : State) (x : Journal) (p : Port) :
    { s with journal := x }.port p = s.port p := by
  cases p <;> rfl

@[simp] theorem State.with_console_port (s : State) (x : DeskSide) (p : Port) :
    { s with console := x }.port p = s.port p := by
  cases p <;> rfl

@[simp] theorem State.with_kiosk_port (s : State) (x : DeskSide) (p : Port) :
    { s with kiosk := x }.port p = s.port p := by
  cases p <;> rfl

@[simp] theorem State.with_shares_port (s : State) (x : Shares) (p : Port) :
    { s with shares := x }.port p = s.port p := by
  cases p <;> rfl

@[simp] theorem State.with_pending_port (s : State) (x : List Instr) (p : Port) :
    { s with pending := x }.port p = s.port p := by
  cases p <;> rfl

end Sys2Proof.Machine
end

