-- ==== Sys2Proof/Laws/OpsFrame.lean ====
section
/-! SUPPORT. What the named operations over the state leave unchanged: one lemma for each. -/

namespace Sys2Proof.Machine

@[simp] theorem State.modWandCopies_frame (s : State) (d : Desk) (f : WandCounters → WandCounters) :
    (State.modWandCopies s d f).control = s.control ∧ (State.modWandCopies s d f).clock = s.clock ∧
    (State.modWandCopies s d f).policy = s.policy ∧ (State.modWandCopies s d f).borrowers = s.borrowers ∧
    (State.modWandCopies s d f).loans = s.loans ∧ (State.modWandCopies s d f).loanLists = s.loanLists ∧
    (State.modWandCopies s d f).items = s.items ∧ (State.modWandCopies s d f).engine = s.engine ∧
    (State.modWandCopies s d f).sweep = s.sweep ∧ (State.modWandCopies s d f).scrub = s.scrub ∧
    (State.modWandCopies s d f).journal = s.journal ∧ (State.modWandCopies s d f).console = s.console ∧
    (State.modWandCopies s d f).kiosk = s.kiosk ∧ (State.modWandCopies s d f).consolePort = s.consolePort ∧
    (State.modWandCopies s d f).kioskPort = s.kioskPort ∧ (State.modWandCopies s d f).uplinkPort = s.uplinkPort ∧
    (State.modWandCopies s d f).pending = s.pending := by
  refine ⟨?_, ?_, ?_, ?_, ?_, ?_, ?_, ?_, ?_, ?_, ?_, ?_, ?_, ?_, ?_, ?_, ?_⟩ <;>
  ((unfold State.modWandCopies; first | rfl | (simp; done) | (((try dsimp only); repeat' split) <;> first | rfl | (simp; done) | (simp_all; done))))

@[simp] theorem State.addLostSlips_frame (s : State) (d : Desk) (k : Nat) :
    (State.addLostSlips s d k).control = s.control ∧ (State.addLostSlips s d k).clock = s.clock ∧
    (State.addLostSlips s d k).policy = s.policy ∧ (State.addLostSlips s d k).borrowers = s.borrowers ∧
    (State.addLostSlips s d k).loans = s.loans ∧ (State.addLostSlips s d k).loanLists = s.loanLists ∧
    (State.addLostSlips s d k).items = s.items ∧ (State.addLostSlips s d k).engine = s.engine ∧
    (State.addLostSlips s d k).sweep = s.sweep ∧ (State.addLostSlips s d k).scrub = s.scrub ∧
    (State.addLostSlips s d k).journal = s.journal ∧ (State.addLostSlips s d k).console = s.console ∧
    (State.addLostSlips s d k).kiosk = s.kiosk ∧ (State.addLostSlips s d k).consolePort = s.consolePort ∧
    (State.addLostSlips s d k).kioskPort = s.kioskPort ∧ (State.addLostSlips s d k).uplinkPort = s.uplinkPort ∧
    (State.addLostSlips s d k).pending = s.pending := by
  refine ⟨?_, ?_, ?_, ?_, ?_, ?_, ?_, ?_, ?_, ?_, ?_, ?_, ?_, ?_, ?_, ?_, ?_⟩ <;>
  ((unfold State.addLostSlips; first | rfl | (simp; done) | (((try dsimp only); repeat' split) <;> first | rfl | (simp; done) | (simp_all; done))))

@[simp] theorem State.addDayMarkLost_frame (s : State) :
    (State.addDayMarkLost s).control = s.control ∧ (State.addDayMarkLost s).clock = s.clock ∧
    (State.addDayMarkLost s).policy = s.policy ∧ (State.addDayMarkLost s).borrowers = s.borrowers ∧
    (State.addDayMarkLost s).loans = s.loans ∧ (State.addDayMarkLost s).loanLists = s.loanLists ∧
    (State.addDayMarkLost s).items = s.items ∧ (State.addDayMarkLost s).engine = s.engine ∧
    (State.addDayMarkLost s).sweep = s.sweep ∧ (State.addDayMarkLost s).scrub = s.scrub ∧
    (State.addDayMarkLost s).journal = s.journal ∧ (State.addDayMarkLost s).console = s.console ∧
    (State.addDayMarkLost s).kiosk = s.kiosk ∧ (State.addDayMarkLost s).consolePort = s.consolePort ∧
    (State.addDayMarkLost s).kioskPort = s.kioskPort ∧ (State.addDayMarkLost s).uplinkPort = s.uplinkPort ∧
    (State.addDayMarkLost s).pending = s.pending := by
  refine ⟨?_, ?_, ?_, ?_, ?_, ?_, ?_, ?_, ?_, ?_, ?_, ?_, ?_, ?_, ?_, ?_, ?_⟩ <;>
  ((unfold State.addDayMarkLost; first | rfl | (simp; done) | (((try dsimp only); repeat' split) <;> first | rfl | (simp; done) | (simp_all; done))))

@[simp] theorem State.addDateEntryLost_frame (s : State) :
    (State.addDateEntryLost s).control = s.control ∧ (State.addDateEntryLost s).clock = s.clock ∧
    (State.addDateEntryLost s).policy = s.policy ∧ (State.addDateEntryLost s).borrowers = s.borrowers ∧
    (State.addDateEntryLost s).loans = s.loans ∧ (State.addDateEntryLost s).loanLists = s.loanLists ∧
    (State.addDateEntryLost s).items = s.items ∧ (State.addDateEntryLost s).engine = s.engine ∧
    (State.addDateEntryLost s).sweep = s.sweep ∧ (State.addDateEntryLost s).scrub = s.scrub ∧
    (State.addDateEntryLost s).journal = s.journal ∧ (State.addDateEntryLost s).console = s.console ∧
    (State.addDateEntryLost s).kiosk = s.kiosk ∧ (State.addDateEntryLost s).consolePort = s.consolePort ∧
    (State.addDateEntryLost s).kioskPort = s.kioskPort ∧ (State.addDateEntryLost s).uplinkPort = s.uplinkPort ∧
    (State.addDateEntryLost s).pending = s.pending := by
  refine ⟨?_, ?_, ?_, ?_, ?_, ?_, ?_, ?_, ?_, ?_, ?_, ?_, ?_, ?_, ?_, ?_, ?_⟩ <;>
  ((unfold State.addDateEntryLost; first | rfl | (simp; done) | (((try dsimp only); repeat' split) <;> first | rfl | (simp; done) | (simp_all; done))))

@[simp] theorem State.notify_frame (s : State) (p : Port) (n : Notice) :
    (State.notify s p n).control = s.control ∧ (State.notify s p n).clock = s.clock ∧
    (State.notify s p n).policy = s.policy ∧ (State.notify s p n).borrowers = s.borrowers ∧
    (State.notify s p n).loans = s.loans ∧ (State.notify s p n).loanLists = s.loanLists ∧
    (State.notify s p n).items = s.items ∧ (State.notify s p n).engine = s.engine ∧
    (State.notify s p n).sweep = s.sweep ∧ (State.notify s p n).scrub = s.scrub ∧
    (State.notify s p n).journal = s.journal ∧ (State.notify s p n).console = s.console ∧
    (State.notify s p n).kiosk = s.kiosk ∧ (State.notify s p n).shares = s.shares ∧
    (State.notify s p n).pending = s.pending := by
  refine ⟨?_, ?_, ?_, ?_, ?_, ?_, ?_, ?_, ?_, ?_, ?_, ?_, ?_, ?_, ?_⟩ <;>
  ((unfold State.notify; first | rfl | (simp; done) | (((try dsimp only); repeat' split) <;> first | rfl | (simp; done) | (simp_all; done))))

@[simp] theorem State.notifyConsoleUplink_frame (s : State) (n : Notice) :
    (State.notifyConsoleUplink s n).control = s.control ∧ (State.notifyConsoleUplink s n).clock = s.clock ∧
    (State.notifyConsoleUplink s n).policy = s.policy ∧ (State.notifyConsoleUplink s n).borrowers = s.borrowers ∧
    (State.notifyConsoleUplink s n).loans = s.loans ∧ (State.notifyConsoleUplink s n).loanLists = s.loanLists ∧
    (State.notifyConsoleUplink s n).items = s.items ∧ (State.notifyConsoleUplink s n).engine = s.engine ∧
    (State.notifyConsoleUplink s n).sweep = s.sweep ∧ (State.notifyConsoleUplink s n).scrub = s.scrub ∧
    (State.notifyConsoleUplink s n).journal = s.journal ∧ (State.notifyConsoleUplink s n).console = s.console ∧
    (State.notifyConsoleUplink s n).kiosk = s.kiosk ∧ (State.notifyConsoleUplink s n).kioskPort = s.kioskPort ∧
    (State.notifyConsoleUplink s n).shares = s.shares ∧ (State.notifyConsoleUplink s n).pending = s.pending := by
  refine ⟨?_, ?_, ?_, ?_, ?_, ?_, ?_, ?_, ?_, ?_, ?_, ?_, ?_, ?_, ?_, ?_⟩ <;>
  ((unfold State.notifyConsoleUplink; first | rfl | (simp; done) | (((try dsimp only); repeat' split) <;> first | rfl | (simp; done) | (simp_all; done))))

@[simp] theorem State.notifyAll_frame (s : State) (n : Notice) :
    (State.notifyAll s n).control = s.control ∧ (State.notifyAll s n).clock = s.clock ∧
    (State.notifyAll s n).policy = s.policy ∧ (State.notifyAll s n).borrowers = s.borrowers ∧
    (State.notifyAll s n).loans = s.loans ∧ (State.notifyAll s n).loanLists = s.loanLists ∧
    (State.notifyAll s n).items = s.items ∧ (State.notifyAll s n).engine = s.engine ∧
    (State.notifyAll s n).sweep = s.sweep ∧ (State.notifyAll s n).scrub = s.scrub ∧
    (State.notifyAll s n).journal = s.journal ∧ (State.notifyAll s n).console = s.console ∧
    (State.notifyAll s n).kiosk = s.kiosk ∧ (State.notifyAll s n).shares = s.shares ∧
    (State.notifyAll s n).pending = s.pending := by
  refine ⟨?_, ?_, ?_, ?_, ?_, ?_, ?_, ?_, ?_, ?_, ?_, ?_, ?_, ?_, ?_⟩ <;>
  ((unfold State.notifyAll; first | rfl | (simp; done) | (((try dsimp only); repeat' split) <;> first | rfl | (simp; done) | (simp_all; done))))

@[simp] theorem State.answer_frame (s : State) (p : Port) (tag request : Byte) (code : ReplyCode) :
    (State.answer s p tag request code).control = s.control ∧
    (State.answer s p tag request code).clock = s.clock ∧ (State.answer s p tag request code).policy = s.policy ∧
    (State.answer s p tag request code).borrowers = s.borrowers ∧
    (State.answer s p tag request code).loans = s.loans ∧
    (State.answer s p tag request code).loanLists = s.loanLists ∧
    (State.answer s p tag request code).items = s.items ∧ (State.answer s p tag request code).engine = s.engine ∧
    (State.answer s p tag request code).sweep = s.sweep ∧ (State.answer s p tag request code).scrub = s.scrub ∧
    (State.answer s p tag request code).journal = s.journal ∧
    (State.answer s p tag request code).console = s.console ∧
    (State.answer s p tag request code).kiosk = s.kiosk ∧ (State.answer s p tag request code).shares = s.shares ∧
    (State.answer s p tag request code).pending = s.pending := by
  refine ⟨?_, ?_, ?_, ?_, ?_, ?_, ?_, ?_, ?_, ?_, ?_, ?_, ?_, ?_, ?_⟩ <;>
  ((unfold State.answer; first | rfl | (simp; done) | (((try dsimp only); repeat' split) <;> first | rfl | (simp; done) | (simp_all; done))))

@[simp] theorem State.reply_frame (s : State) (p : Port) (code : ReplyCode) (flags : ReplyFlags) (results : List Field) :
    (State.reply s p code flags results).control = s.control ∧
    (State.reply s p code flags results).clock = s.clock ∧
    (State.reply s p code flags results).policy = s.policy ∧
    (State.reply s p code flags results).borrowers = s.borrowers ∧
    (State.reply s p code flags results).loans = s.loans ∧
    (State.reply s p code flags results).loanLists = s.loanLists ∧
    (State.reply s p code flags results).items = s.items ∧
    (State.reply s p code flags results).engine = s.engine ∧
    (State.reply s p code flags results).sweep = s.sweep ∧ (State.reply s p code flags results).scrub = s.scrub ∧
    (State.reply s p code flags results).journal = s.journal ∧
    (State.reply s p code flags results).console = s.console ∧
    (State.reply s p code flags results).kiosk = s.kiosk ∧
    (State.reply s p code flags results).shares = s.shares ∧
    (State.reply s p code flags results).pending = s.pending := by
  refine ⟨?_, ?_, ?_, ?_, ?_, ?_, ?_, ?_, ?_, ?_, ?_, ?_, ?_, ?_, ?_⟩ <;>
  ((unfold State.reply; first | rfl | (simp; done) | (((try dsimp only); repeat' split) <;> first | rfl | (simp; done) | (simp_all; done))))

@[simp] theorem State.refuse_frame (s : State) (p : Port) (code : ReplyCode) (values : List Field) :
    (State.refuse s p code values).control = s.control ∧ (State.refuse s p code values).clock = s.clock ∧
    (State.refuse s p code values).policy = s.policy ∧ (State.refuse s p code values).borrowers = s.borrowers ∧
    (State.refuse s p code values).loans = s.loans ∧ (State.refuse s p code values).loanLists = s.loanLists ∧
    (State.refuse s p code values).items = s.items ∧ (State.refuse s p code values).engine = s.engine ∧
    (State.refuse s p code values).sweep = s.sweep ∧ (State.refuse s p code values).scrub = s.scrub ∧
    (State.refuse s p code values).journal = s.journal ∧ (State.refuse s p code values).console = s.console ∧
    (State.refuse s p code values).kiosk = s.kiosk ∧ (State.refuse s p code values).shares = s.shares ∧
    (State.refuse s p code values).pending = s.pending := by
  refine ⟨?_, ?_, ?_, ?_, ?_, ?_, ?_, ?_, ?_, ?_, ?_, ?_, ?_, ?_, ?_⟩ <;>
  ((unfold State.refuse; first | rfl | (simp; done) | (((try dsimp only); repeat' split) <;> first | rfl | (simp; done) | (simp_all; done))))

@[simp] theorem State.setOp_frame (s : State) (p : Port) (op : EngineOp) :
    (State.setOp s p op).control = s.control ∧ (State.setOp s p op).clock = s.clock ∧
    (State.setOp s p op).policy = s.policy ∧ (State.setOp s p op).borrowers = s.borrowers ∧
    (State.setOp s p op).loans = s.loans ∧ (State.setOp s p op).loanLists = s.loanLists ∧
    (State.setOp s p op).items = s.items ∧ (State.setOp s p op).engine = s.engine ∧
    (State.setOp s p op).sweep = s.sweep ∧ (State.setOp s p op).scrub = s.scrub ∧
    (State.setOp s p op).journal = s.journal ∧ (State.setOp s p op).console = s.console ∧
    (State.setOp s p op).kiosk = s.kiosk ∧ (State.setOp s p op).shares = s.shares ∧
    (State.setOp s p op).pending = s.pending := by
  refine ⟨?_, ?_, ?_, ?_, ?_, ?_, ?_, ?_, ?_, ?_, ?_, ?_, ?_, ?_, ?_⟩ <;>
  ((unfold State.setOp; first | rfl | (simp; done) | (((try dsimp only); repeat' split) <;> first | rfl | (simp; done) | (simp_all; done))))

@[simp] theorem State.touch_frame (s : State) (t : TableId) :
    (State.touch s t).control = s.control ∧ (State.touch s t).clock = s.clock ∧
    (State.touch s t).policy = s.policy ∧ (State.touch s t).borrowers = s.borrowers ∧
    (State.touch s t).loans = s.loans ∧ (State.touch s t).loanLists = s.loanLists ∧
    (State.touch s t).items = s.items ∧ (State.touch s t).engine = s.engine ∧ (State.touch s t).sweep = s.sweep ∧
    (State.touch s t).journal = s.journal ∧ (State.touch s t).console = s.console ∧
    (State.touch s t).kiosk = s.kiosk ∧ (State.touch s t).consolePort = s.consolePort ∧
    (State.touch s t).kioskPort = s.kioskPort ∧ (State.touch s t).uplinkPort = s.uplinkPort ∧
    (State.touch s t).shares = s.shares ∧ (State.touch s t).pending = s.pending := by
  refine ⟨?_, ?_, ?_, ?_, ?_, ?_, ?_, ?_, ?_, ?_, ?_, ?_, ?_, ?_, ?_, ?_, ?_⟩ <;>
  ((unfold State.touch; first | rfl | (simp; done) | (((try dsimp only); repeat' split) <;> first | rfl | (simp; done) | (simp_all; done))))

@[simp] theorem State.setHealth_frame (s : State) (t : TableId) (h : Health) :
    (State.setHealth s t h).control = s.control ∧ (State.setHealth s t h).clock = s.clock ∧
    (State.setHealth s t h).loanLists = s.loanLists ∧ (State.setHealth s t h).engine = s.engine ∧
    (State.setHealth s t h).sweep = s.sweep ∧ (State.setHealth s t h).scrub = s.scrub ∧
    (State.setHealth s t h).journal = s.journal ∧ (State.setHealth s t h).console = s.console ∧
    (State.setHealth s t h).kiosk = s.kiosk ∧ (State.setHealth s t h).consolePort = s.consolePort ∧
    (State.setHealth s t h).kioskPort = s.kioskPort ∧ (State.setHealth s t h).uplinkPort = s.uplinkPort ∧
    (State.setHealth s t h).shares = s.shares ∧ (State.setHealth s t h).pending = s.pending := by
  refine ⟨?_, ?_, ?_, ?_, ?_, ?_, ?_, ?_, ?_, ?_, ?_, ?_, ?_, ?_⟩ <;>
  ((unfold State.setHealth; first | rfl | (simp; done) | (((try dsimp only); repeat' split) <;> first | rfl | (simp; done) | (simp_all; done))))

@[simp] theorem State.tableFault_frame (s : State) (t : TableId) (cause : FaultCause) (slot : Option Nat) :
    (State.tableFault s t cause slot).control = s.control ∧ (State.tableFault s t cause slot).clock = s.clock ∧
    (State.tableFault s t cause slot).loanLists = s.loanLists ∧
    (State.tableFault s t cause slot).engine = s.engine ∧ (State.tableFault s t cause slot).sweep = s.sweep ∧
    (State.tableFault s t cause slot).scrub = s.scrub ∧ (State.tableFault s t cause slot).journal = s.journal ∧
    (State.tableFault s t cause slot).console = s.console ∧ (State.tableFault s t cause slot).kiosk = s.kiosk ∧
    (State.tableFault s t cause slot).shares = s.shares ∧
    (State.tableFault s t cause slot).pending = s.pending := by
  refine ⟨?_, ?_, ?_, ?_, ?_, ?_, ?_, ?_, ?_, ?_, ?_⟩ <;>
  ((unfold State.tableFault; first | rfl | (simp; done) | (((try dsimp only); repeat' split) <;> first | rfl | (simp; done) | (simp_all; done))))

@[simp] theorem State.addBorrower_frame (s : State) (r : BorrowerRecord) :
    (State.addBorrower s r).control = s.control ∧ (State.addBorrower s r).clock = s.clock ∧
    (State.addBorrower s r).policy = s.policy ∧ (State.addBorrower s r).loans = s.loans ∧
    (State.addBorrower s r).loanLists = s.loanLists ∧ (State.addBorrower s r).items = s.items ∧
    (State.addBorrower s r).engine = s.engine ∧ (State.addBorrower s r).sweep = s.sweep ∧
    (State.addBorrower s r).journal = s.journal ∧ (State.addBorrower s r).console = s.console ∧
    (State.addBorrower s r).kiosk = s.kiosk ∧ (State.addBorrower s r).consolePort = s.consolePort ∧
    (State.addBorrower s r).kioskPort = s.kioskPort ∧ (State.addBorrower s r).uplinkPort = s.uplinkPort ∧
    (State.addBorrower s r).shares = s.shares ∧ (State.addBorrower s r).pending = s.pending := by
  refine ⟨?_, ?_, ?_, ?_, ?_, ?_, ?_, ?_, ?_, ?_, ?_, ?_, ?_, ?_, ?_, ?_⟩ <;>
  ((unfold State.addBorrower; first | rfl | (simp; done) | (((try dsimp only); repeat' split) <;> first | rfl | (simp; done) | (simp_all; done))))

@[simp] theorem State.putBorrower_frame (s : State) (r : BorrowerRecord) :
    (State.putBorrower s r).control = s.control ∧ (State.putBorrower s r).clock = s.clock ∧
    (State.putBorrower s r).policy = s.policy ∧ (State.putBorrower s r).loans = s.loans ∧
    (State.putBorrower s r).loanLists = s.loanLists ∧ (State.putBorrower s r).items = s.items ∧
    (State.putBorrower s r).engine = s.engine ∧ (State.putBorrower s r).sweep = s.sweep ∧
    (State.putBorrower s r).journal = s.journal ∧ (State.putBorrower s r).console = s.console ∧
    (State.putBorrower s r).kiosk = s.kiosk ∧ (State.putBorrower s r).consolePort = s.consolePort ∧
    (State.putBorrower s r).kioskPort = s.kioskPort ∧ (State.putBorrower s r).uplinkPort = s.uplinkPort ∧
    (State.putBorrower s r).shares = s.shares ∧ (State.putBorrower s r).pending = s.pending := by
  refine ⟨?_, ?_, ?_, ?_, ?_, ?_, ?_, ?_, ?_, ?_, ?_, ?_, ?_, ?_, ?_, ?_⟩ <;>
  ((unfold State.putBorrower; first | rfl | (simp; done) | (((try dsimp only); repeat' split) <;> first | rfl | (simp; done) | (simp_all; done))))

@[simp] theorem State.modBorrower_frame (s : State) (n : Nat) (f : BorrowerRecord → BorrowerRecord) :
    (State.modBorrower s n f).control = s.control ∧ (State.modBorrower s n f).clock = s.clock ∧
    (State.modBorrower s n f).policy = s.policy ∧ (State.modBorrower s n f).loans = s.loans ∧
    (State.modBorrower s n f).loanLists = s.loanLists ∧ (State.modBorrower s n f).items = s.items ∧
    (State.modBorrower s n f).engine = s.engine ∧ (State.modBorrower s n f).sweep = s.sweep ∧
    (State.modBorrower s n f).journal = s.journal ∧ (State.modBorrower s n f).console = s.console ∧
    (State.modBorrower s n f).kiosk = s.kiosk ∧ (State.modBorrower s n f).consolePort = s.consolePort ∧
    (State.modBorrower s n f).kioskPort = s.kioskPort ∧ (State.modBorrower s n f).uplinkPort = s.uplinkPort ∧
    (State.modBorrower s n f).shares = s.shares ∧ (State.modBorrower s n f).pending = s.pending := by
  refine ⟨?_, ?_, ?_, ?_, ?_, ?_, ?_, ?_, ?_, ?_, ?_, ?_, ?_, ?_, ?_, ?_⟩ <;>
  ((unfold State.modBorrower; first | rfl | (simp; done) | (((try dsimp only); repeat' split) <;> first | rfl | (simp; done) | (simp_all; done))))

@[simp] theorem State.dropBorrower_frame (s : State) (n : Nat) :
    (State.dropBorrower s n).control = s.control ∧ (State.dropBorrower s n).clock = s.clock ∧
    (State.dropBorrower s n).policy = s.policy ∧ (State.dropBorrower s n).loans = s.loans ∧
    (State.dropBorrower s n).loanLists = s.loanLists ∧ (State.dropBorrower s n).items = s.items ∧
    (State.dropBorrower s n).engine = s.engine ∧ (State.dropBorrower s n).sweep = s.sweep ∧
    (State.dropBorrower s n).journal = s.journal ∧ (State.dropBorrower s n).console = s.console ∧
    (State.dropBorrower s n).kiosk = s.kiosk ∧ (State.dropBorrower s n).consolePort = s.consolePort ∧
    (State.dropBorrower s n).kioskPort = s.kioskPort ∧ (State.dropBorrower s n).uplinkPort = s.uplinkPort ∧
    (State.dropBorrower s n).shares = s.shares ∧ (State.dropBorrower s n).pending = s.pending := by
  refine ⟨?_, ?_, ?_, ?_, ?_, ?_, ?_, ?_, ?_, ?_, ?_, ?_, ?_, ?_, ?_, ?_⟩ <;>
  ((unfold State.dropBorrower; first | rfl | (simp; done) | (((try dsimp only); repeat' split) <;> first | rfl | (simp; done) | (simp_all; done))))

@[simp] theorem State.enterLoanList_frame (s : State) (l : LoanRecord) :
    (State.enterLoanList s l).control = s.control ∧ (State.enterLoanList s l).clock = s.clock ∧
    (State.enterLoanList s l).policy = s.policy ∧ (State.enterLoanList s l).borrowers = s.borrowers ∧
    (State.enterLoanList s l).loans = s.loans ∧ (State.enterLoanList s l).items = s.items ∧
    (State.enterLoanList s l).engine = s.engine ∧ (State.enterLoanList s l).sweep = s.sweep ∧
    (State.enterLoanList s l).scrub = s.scrub ∧ (State.enterLoanList s l).journal = s.journal ∧
    (State.enterLoanList s l).console = s.console ∧ (State.enterLoanList s l).kiosk = s.kiosk ∧
    (State.enterLoanList s l).consolePort = s.consolePort ∧ (State.enterLoanList s l).kioskPort = s.kioskPort ∧
    (State.enterLoanList s l).uplinkPort = s.uplinkPort ∧ (State.enterLoanList s l).shares = s.shares ∧
    (State.enterLoanList s l).pending = s.pending := by
  refine ⟨?_, ?_, ?_, ?_, ?_, ?_, ?_, ?_, ?_, ?_, ?_, ?_, ?_, ?_, ?_, ?_, ?_⟩ <;>
  ((unfold State.enterLoanList; first | rfl | (simp; done) | (((try dsimp only); repeat' split) <;> first | rfl | (simp; done) | (simp_all; done))))

@[simp] theorem State.leaveLoanList_frame (s : State) (l : LoanRecord) :
    (State.leaveLoanList s l).control = s.control ∧ (State.leaveLoanList s l).clock = s.clock ∧
    (State.leaveLoanList s l).policy = s.policy ∧ (State.leaveLoanList s l).borrowers = s.borrowers ∧
    (State.leaveLoanList s l).loans = s.loans ∧ (State.leaveLoanList s l).items = s.items ∧
    (State.leaveLoanList s l).engine = s.engine ∧ (State.leaveLoanList s l).sweep = s.sweep ∧
    (State.leaveLoanList s l).scrub = s.scrub ∧ (State.leaveLoanList s l).journal = s.journal ∧
    (State.leaveLoanList s l).console = s.console ∧ (State.leaveLoanList s l).kiosk = s.kiosk ∧
    (State.leaveLoanList s l).consolePort = s.consolePort ∧ (State.leaveLoanList s l).kioskPort = s.kioskPort ∧
    (State.leaveLoanList s l).uplinkPort = s.uplinkPort ∧ (State.leaveLoanList s l).shares = s.shares ∧
    (State.leaveLoanList s l).pending = s.pending := by
  refine ⟨?_, ?_, ?_, ?_, ?_, ?_, ?_, ?_, ?_, ?_, ?_, ?_, ?_, ?_, ?_, ?_, ?_⟩ <;>
  ((unfold State.leaveLoanList; first | rfl | (simp; done) | (((try dsimp only); repeat' split) <;> first | rfl | (simp; done) | (simp_all; done))))

@[simp] theorem State.addLoan_frame (s : State) (l : LoanRecord) :
    (State.addLoan s l).control = s.control ∧ (State.addLoan s l).clock = s.clock ∧
    (State.addLoan s l).policy = s.policy ∧ (State.addLoan s l).borrowers = s.borrowers ∧
    (State.addLoan s l).items = s.items ∧ (State.addLoan s l).engine = s.engine ∧
    (State.addLoan s l).sweep = s.sweep ∧ (State.addLoan s l).journal = s.journal ∧
    (State.addLoan s l).console = s.console ∧ (State.addLoan s l).kiosk = s.kiosk ∧
    (State.addLoan s l).consolePort = s.consolePort ∧ (State.addLoan s l).kioskPort = s.kioskPort ∧
    (State.addLoan s l).uplinkPort = s.uplinkPort ∧ (State.addLoan s l).shares = s.shares ∧
    (State.addLoan s l).pending = s.pending := by
  refine ⟨?_, ?_, ?_, ?_, ?_, ?_, ?_, ?_, ?_, ?_, ?_, ?_, ?_, ?_, ?_⟩ <;>
  ((unfold State.addLoan; first | rfl | (simp; done) | (((try dsimp only); repeat' split) <;> first | rfl | (simp; done) | (simp_all; done))))

@[simp] theorem State.putLoan_frame (s : State) (l : LoanRecord) :
    (State.putLoan s l).control = s.control ∧ (State.putLoan s l).clock = s.clock ∧
    (State.putLoan s l).policy = s.policy ∧ (State.putLoan s l).borrowers = s.borrowers ∧
    (State.putLoan s l).loanLists = s.loanLists ∧ (State.putLoan s l).items = s.items ∧
    (State.putLoan s l).engine = s.engine ∧ (State.putLoan s l).sweep = s.sweep ∧
    (State.putLoan s l).journal = s.journal ∧ (State.putLoan s l).console = s.console ∧
    (State.putLoan s l).kiosk = s.kiosk ∧ (State.putLoan s l).consolePort = s.consolePort ∧
    (State.putLoan s l).kioskPort = s.kioskPort ∧ (State.putLoan s l).uplinkPort = s.uplinkPort ∧
    (State.putLoan s l).shares = s.shares ∧ (State.putLoan s l).pending = s.pending := by
  refine ⟨?_, ?_, ?_, ?_, ?_, ?_, ?_, ?_, ?_, ?_, ?_, ?_, ?_, ?_, ?_, ?_⟩ <;>
  ((unfold State.putLoan; first | rfl | (simp; done) | (((try dsimp only); repeat' split) <;> first | rfl | (simp; done) | (simp_all; done))))

@[simp] theorem State.dropLoan_frame (s : State) (l : LoanRecord) :
    (State.dropLoan s l).control = s.control ∧ (State.dropLoan s l).clock = s.clock ∧
    (State.dropLoan s l).policy = s.policy ∧ (State.dropLoan s l).borrowers = s.borrowers ∧
    (State.dropLoan s l).items = s.items ∧ (State.dropLoan s l).engine = s.engine ∧
    (State.dropLoan s l).sweep = s.sweep ∧ (State.dropLoan s l).journal = s.journal ∧
    (State.dropLoan s l).console = s.console ∧ (State.dropLoan s l).kiosk = s.kiosk ∧
    (State.dropLoan s l).consolePort = s.consolePort ∧ (State.dropLoan s l).kioskPort = s.kioskPort ∧
    (State.dropLoan s l).uplinkPort = s.uplinkPort ∧ (State.dropLoan s l).shares = s.shares ∧
    (State.dropLoan s l).pending = s.pending := by
  refine ⟨?_, ?_, ?_, ?_, ?_, ?_, ?_, ?_, ?_, ?_, ?_, ?_, ?_, ?_, ?_⟩ <;>
  ((unfold State.dropLoan; first | rfl | (simp; done) | (((try dsimp only); repeat' split) <;> first | rfl | (simp; done) | (simp_all; done))))

@[simp] theorem State.addException_frame (s : State) (r : ExceptionRecord) :
    (State.addException s r).control = s.control ∧ (State.addException s r).clock = s.clock ∧
    (State.addException s r).policy = s.policy ∧ (State.addException s r).borrowers = s.borrowers ∧
    (State.addException s r).loans = s.loans ∧ (State.addException s r).loanLists = s.loanLists ∧
    (State.addException s r).engine = s.engine ∧ (State.addException s r).sweep = s.sweep ∧
    (State.addException s r).journal = s.journal ∧ (State.addException s r).console = s.console ∧
    (State.addException s r).kiosk = s.kiosk ∧ (State.addException s r).consolePort = s.consolePort ∧
    (State.addException s r).kioskPort = s.kioskPort ∧ (State.addException s r).uplinkPort = s.uplinkPort ∧
    (State.addException s r).shares = s.shares ∧ (State.addException s r).pending = s.pending := by
  refine ⟨?_, ?_, ?_, ?_, ?_, ?_, ?_, ?_, ?_, ?_, ?_, ?_, ?_, ?_, ?_, ?_⟩ <;>
  ((unfold State.addException; first | rfl | (simp; done) | (((try dsimp only); repeat' split) <;> first | rfl | (simp; done) | (simp_all; done))))

@[simp] theorem State.dropException_frame (s : State) (item : Nat) :
    (State.dropException s item).control = s.control ∧ (State.dropException s item).clock = s.clock ∧
    (State.dropException s item).policy = s.policy ∧ (State.dropException s item).borrowers = s.borrowers ∧
    (State.dropException s item).loans = s.loans ∧ (State.dropException s item).loanLists = s.loanLists ∧
    (State.dropException s item).engine = s.engine ∧ (State.dropException s item).sweep = s.sweep ∧
    (State.dropException s item).journal = s.journal ∧ (State.dropException s item).console = s.console ∧
    (State.dropException s item).kiosk = s.kiosk ∧ (State.dropException s item).consolePort = s.consolePort ∧
    (State.dropException s item).kioskPort = s.kioskPort ∧
    (State.dropException s item).uplinkPort = s.uplinkPort ∧ (State.dropException s item).shares = s.shares ∧
    (State.dropException s item).pending = s.pending := by
  refine ⟨?_, ?_, ?_, ?_, ?_, ?_, ?_, ?_, ?_, ?_, ?_, ?_, ?_, ?_, ?_, ?_⟩ <;>
  ((unfold State.dropException; first | rfl | (simp; done) | (((try dsimp only); repeat' split) <;> first | rfl | (simp; done) | (simp_all; done))))

@[simp] theorem State.putException_frame (s : State) (r : ExceptionRecord) :
    (State.putException s r).control = s.control ∧ (State.putException s r).clock = s.clock ∧
    (State.putException s r).policy = s.policy ∧ (State.putException s r).borrowers = s.borrowers ∧
    (State.putException s r).loans = s.loans ∧ (State.putException s r).loanLists = s.loanLists ∧
    (State.putException s r).engine = s.engine ∧ (State.putException s r).sweep = s.sweep ∧
    (State.putException s r).journal = s.journal ∧ (State.putException s r).console = s.console ∧
    (State.putException s r).kiosk = s.kiosk ∧ (State.putException s r).consolePort = s.consolePort ∧
    (State.putException s r).kioskPort = s.kioskPort ∧ (State.putException s r).uplinkPort = s.uplinkPort ∧
    (State.putException s r).shares = s.shares ∧ (State.putException s r).pending = s.pending := by
  refine ⟨?_, ?_, ?_, ?_, ?_, ?_, ?_, ?_, ?_, ?_, ?_, ?_, ?_, ?_, ?_, ?_⟩ <;>
  ((unfold State.putException; first | rfl | (simp; done) | (((try dsimp only); repeat' split) <;> first | rfl | (simp; done) | (simp_all; done))))

@[simp] theorem State.evaluateLevel_frame (s : State) (before : Nat) :
    (State.evaluateLevel s before).control = s.control ∧ (State.evaluateLevel s before).clock = s.clock ∧
    (State.evaluateLevel s before).policy = s.policy ∧ (State.evaluateLevel s before).borrowers = s.borrowers ∧
    (State.evaluateLevel s before).loans = s.loans ∧ (State.evaluateLevel s before).loanLists = s.loanLists ∧
    (State.evaluateLevel s before).items = s.items ∧ (State.evaluateLevel s before).engine = s.engine ∧
    (State.evaluateLevel s before).sweep = s.sweep ∧ (State.evaluateLevel s before).scrub = s.scrub ∧
    (State.evaluateLevel s before).journal = s.journal ∧ (State.evaluateLevel s before).console = s.console ∧
    (State.evaluateLevel s before).kiosk = s.kiosk ∧ (State.evaluateLevel s before).kioskPort = s.kioskPort ∧
    (State.evaluateLevel s before).shares = s.shares ∧ (State.evaluateLevel s before).pending = s.pending := by
  refine ⟨?_, ?_, ?_, ?_, ?_, ?_, ?_, ?_, ?_, ?_, ?_, ?_, ?_, ?_, ?_, ?_⟩ <;>
  ((unfold State.evaluateLevel; first | rfl | (simp; done) | (((try dsimp only); repeat' split) <;> first | rfl | (simp; done) | (simp_all; done))))

@[simp] theorem State.stallSweep_frame (s : State) :
    (State.stallSweep s).control = s.control ∧ (State.stallSweep s).clock = s.clock ∧
    (State.stallSweep s).policy = s.policy ∧ (State.stallSweep s).borrowers = s.borrowers ∧
    (State.stallSweep s).loans = s.loans ∧ (State.stallSweep s).loanLists = s.loanLists ∧
    (State.stallSweep s).items = s.items ∧ (State.stallSweep s).scrub = s.scrub ∧
    (State.stallSweep s).journal = s.journal ∧ (State.stallSweep s).console = s.console ∧
    (State.stallSweep s).kiosk = s.kiosk ∧ (State.stallSweep s).consolePort = s.consolePort ∧
    (State.stallSweep s).kioskPort = s.kioskPort ∧ (State.stallSweep s).uplinkPort = s.uplinkPort ∧
    (State.stallSweep s).shares = s.shares ∧ (State.stallSweep s).pending = s.pending := by
  refine ⟨?_, ?_, ?_, ?_, ?_, ?_, ?_, ?_, ?_, ?_, ?_, ?_, ?_, ?_, ?_, ?_⟩ <;>
  ((unfold State.stallSweep; first | rfl | (simp; done) | (((try dsimp only); repeat' split) <;> first | rfl | (simp; done) | (simp_all; done))))

@[simp] theorem State.appendEntries_frame (s : State) (ds : List EntryDraft) :
    (State.appendEntries s ds).control = s.control ∧ (State.appendEntries s ds).clock = s.clock ∧
    (State.appendEntries s ds).policy = s.policy ∧ (State.appendEntries s ds).borrowers = s.borrowers ∧
    (State.appendEntries s ds).loans = s.loans ∧ (State.appendEntries s ds).loanLists = s.loanLists ∧
    (State.appendEntries s ds).items = s.items ∧ (State.appendEntries s ds).scrub = s.scrub ∧
    (State.appendEntries s ds).console = s.console ∧ (State.appendEntries s ds).kiosk = s.kiosk ∧
    (State.appendEntries s ds).kioskPort = s.kioskPort ∧ (State.appendEntries s ds).shares = s.shares ∧
    (State.appendEntries s ds).pending = s.pending := by
  refine ⟨?_, ?_, ?_, ?_, ?_, ?_, ?_, ?_, ?_, ?_, ?_, ?_, ?_⟩ <;>
  ((unfold State.appendEntries; first | rfl | (simp; done) | (((try dsimp only); repeat' split) <;> first | rfl | (simp; done) | (simp_all; done))))

@[simp] theorem State.offerDate_frame (s : State) (e : DateEntry) :
    (State.offerDate s e).control = s.control ∧ (State.offerDate s e).clock = s.clock ∧
    (State.offerDate s e).policy = s.policy ∧ (State.offerDate s e).borrowers = s.borrowers ∧
    (State.offerDate s e).loans = s.loans ∧ (State.offerDate s e).loanLists = s.loanLists ∧
    (State.offerDate s e).items = s.items ∧ (State.offerDate s e).scrub = s.scrub ∧
    (State.offerDate s e).console = s.console ∧ (State.offerDate s e).kiosk = s.kiosk ∧
    (State.offerDate s e).kioskPort = s.kioskPort ∧ (State.offerDate s e).pending = s.pending := by
  refine ⟨?_, ?_, ?_, ?_, ?_, ?_, ?_, ?_, ?_, ?_, ?_, ?_⟩ <;>
  ((unfold State.offerDate; first | rfl | (simp; done) | (((try dsimp only); repeat' split) <;> first | rfl | (simp; done) | (simp_all; done))))

theorem State.foldl_offerDate_frame (es : List DateEntry) (s : State) :
    let t := es.foldl State.offerDate s
    t.control = s.control ∧ t.clock = s.clock ∧ t.policy = s.policy ∧ t.borrowers = s.borrowers ∧ t.loans = s.loans ∧
    t.loanLists = s.loanLists ∧ t.items = s.items ∧ t.scrub = s.scrub ∧ t.console = s.console ∧ t.kiosk = s.kiosk ∧
    t.kioskPort = s.kioskPort ∧ t.pending = s.pending := by
  induction es generalizing s with
  | nil => simp
  | cons e es ih => simpa using ih (s.offerDate e)

@[simp] theorem State.flushDates_frame (s : State) :
    s.flushDates.control = s.control ∧ s.flushDates.clock = s.clock ∧ s.flushDates.policy = s.policy ∧
    s.flushDates.borrowers = s.borrowers ∧ s.flushDates.loans = s.loans ∧ s.flushDates.loanLists = s.loanLists ∧
    s.flushDates.items = s.items ∧ s.flushDates.scrub = s.scrub ∧ s.flushDates.console = s.console ∧
    s.flushDates.kiosk = s.kiosk ∧ s.flushDates.kioskPort = s.kioskPort ∧ s.flushDates.pending = s.pending :=
  State.foldl_offerDate_frame s.journal.waitingDates _

end Sys2Proof.Machine
end

