-- ==== Sys2Proof/Laws/DesksFrame.lean ====
section
/-! SUPPORT. What the operations of the desks, the printers and the part state leave unchanged: one lemma for each. -/

namespace Sys2Proof.Machine

@[simp] theorem State.chargeBorrower_frame (s : State) (c : Charge) :
    (State.chargeBorrower s c).control = s.control ∧ (State.chargeBorrower s c).clock = s.clock ∧
    (State.chargeBorrower s c).policy = s.policy ∧ (State.chargeBorrower s c).loans = s.loans ∧
    (State.chargeBorrower s c).loanLists = s.loanLists ∧ (State.chargeBorrower s c).items = s.items ∧
    (State.chargeBorrower s c).engine = s.engine ∧ (State.chargeBorrower s c).sweep = s.sweep ∧
    (State.chargeBorrower s c).journal = s.journal ∧ (State.chargeBorrower s c).console = s.console ∧
    (State.chargeBorrower s c).kiosk = s.kiosk ∧ (State.chargeBorrower s c).consolePort = s.consolePort ∧
    (State.chargeBorrower s c).kioskPort = s.kioskPort ∧ (State.chargeBorrower s c).uplinkPort = s.uplinkPort ∧
    (State.chargeBorrower s c).shares = s.shares ∧ (State.chargeBorrower s c).pending = s.pending := by
  refine ⟨?_, ?_, ?_, ?_, ?_, ?_, ?_, ?_, ?_, ?_, ?_, ?_, ?_, ?_, ?_, ?_⟩ <;>
  ((unfold State.chargeBorrower; first | rfl | (simp; done) | (((try dsimp only); repeat' split) <;> first | rfl | (simp; done) | (simp_all; done))))

@[simp] theorem State.strobe_frame (s : State) (d : Desk) :
    (State.strobe s d).control = s.control ∧ (State.strobe s d).clock = s.clock ∧
    (State.strobe s d).policy = s.policy ∧ (State.strobe s d).borrowers = s.borrowers ∧
    (State.strobe s d).loans = s.loans ∧ (State.strobe s d).loanLists = s.loanLists ∧
    (State.strobe s d).items = s.items ∧ (State.strobe s d).engine = s.engine ∧
    (State.strobe s d).sweep = s.sweep ∧ (State.strobe s d).scrub = s.scrub ∧
    (State.strobe s d).journal = s.journal ∧ (State.strobe s d).consolePort = s.consolePort ∧
    (State.strobe s d).kioskPort = s.kioskPort ∧ (State.strobe s d).uplinkPort = s.uplinkPort ∧
    (State.strobe s d).shares = s.shares ∧ (State.strobe s d).pending = s.pending := by
  refine ⟨?_, ?_, ?_, ?_, ?_, ?_, ?_, ?_, ?_, ?_, ?_, ?_, ?_, ?_, ?_, ?_⟩ <;>
  ((unfold State.strobe; first | rfl | (simp; done) | (((try dsimp only); repeat' split) <;> first | rfl | (simp; done) | (simp_all; done))))

@[simp] theorem State.printNext_frame (s : State) (d : Desk) :
    (State.printNext s d).control = s.control ∧ (State.printNext s d).clock = s.clock ∧
    (State.printNext s d).policy = s.policy ∧ (State.printNext s d).borrowers = s.borrowers ∧
    (State.printNext s d).loans = s.loans ∧ (State.printNext s d).loanLists = s.loanLists ∧
    (State.printNext s d).items = s.items ∧ (State.printNext s d).engine = s.engine ∧
    (State.printNext s d).sweep = s.sweep ∧ (State.printNext s d).scrub = s.scrub ∧
    (State.printNext s d).journal = s.journal ∧ (State.printNext s d).consolePort = s.consolePort ∧
    (State.printNext s d).kioskPort = s.kioskPort ∧ (State.printNext s d).uplinkPort = s.uplinkPort ∧
    (State.printNext s d).shares = s.shares ∧ (State.printNext s d).pending = s.pending := by
  refine ⟨?_, ?_, ?_, ?_, ?_, ?_, ?_, ?_, ?_, ?_, ?_, ?_, ?_, ?_, ?_, ?_⟩ <;>
  ((unfold State.printNext; first | rfl | (simp; done) | (((try dsimp only); repeat' split) <;> first | rfl | (simp; done) | (simp_all; done))))

@[simp] theorem State.startPrinting_frame (s : State) (d : Desk) (x : Slip) :
    (State.startPrinting s d x).control = s.control ∧ (State.startPrinting s d x).clock = s.clock ∧
    (State.startPrinting s d x).policy = s.policy ∧ (State.startPrinting s d x).borrowers = s.borrowers ∧
    (State.startPrinting s d x).loans = s.loans ∧ (State.startPrinting s d x).loanLists = s.loanLists ∧
    (State.startPrinting s d x).items = s.items ∧ (State.startPrinting s d x).engine = s.engine ∧
    (State.startPrinting s d x).sweep = s.sweep ∧ (State.startPrinting s d x).scrub = s.scrub ∧
    (State.startPrinting s d x).journal = s.journal ∧ (State.startPrinting s d x).consolePort = s.consolePort ∧
    (State.startPrinting s d x).kioskPort = s.kioskPort ∧ (State.startPrinting s d x).uplinkPort = s.uplinkPort ∧
    (State.startPrinting s d x).shares = s.shares ∧ (State.startPrinting s d x).pending = s.pending := by
  refine ⟨?_, ?_, ?_, ?_, ?_, ?_, ?_, ?_, ?_, ?_, ?_, ?_, ?_, ?_, ?_, ?_⟩ <;>
  ((unfold State.startPrinting; first | rfl | (simp; done) | (((try dsimp only); repeat' split) <;> first | rfl | (simp; done) | (simp_all; done))))

@[simp] theorem State.notifyPrinter_frame (s : State) (d : Desk) (st : PrinterState) :
    (State.notifyPrinter s d st).control = s.control ∧ (State.notifyPrinter s d st).clock = s.clock ∧
    (State.notifyPrinter s d st).policy = s.policy ∧ (State.notifyPrinter s d st).borrowers = s.borrowers ∧
    (State.notifyPrinter s d st).loans = s.loans ∧ (State.notifyPrinter s d st).loanLists = s.loanLists ∧
    (State.notifyPrinter s d st).items = s.items ∧ (State.notifyPrinter s d st).engine = s.engine ∧
    (State.notifyPrinter s d st).sweep = s.sweep ∧ (State.notifyPrinter s d st).scrub = s.scrub ∧
    (State.notifyPrinter s d st).journal = s.journal ∧ (State.notifyPrinter s d st).console = s.console ∧
    (State.notifyPrinter s d st).kiosk = s.kiosk ∧ (State.notifyPrinter s d st).shares = s.shares ∧
    (State.notifyPrinter s d st).pending = s.pending := by
  refine ⟨?_, ?_, ?_, ?_, ?_, ?_, ?_, ?_, ?_, ?_, ?_, ?_, ?_, ?_, ?_⟩ <;>
  ((unfold State.notifyPrinter; first | rfl | (simp; done) | (((try dsimp only); repeat' split) <;> first | rfl | (simp; done) | (simp_all; done))))

@[simp] theorem State.enterNoPaper_frame (s : State) (d : Desk) :
    (State.enterNoPaper s d).control = s.control ∧ (State.enterNoPaper s d).clock = s.clock ∧
    (State.enterNoPaper s d).policy = s.policy ∧ (State.enterNoPaper s d).borrowers = s.borrowers ∧
    (State.enterNoPaper s d).loans = s.loans ∧ (State.enterNoPaper s d).loanLists = s.loanLists ∧
    (State.enterNoPaper s d).items = s.items ∧ (State.enterNoPaper s d).engine = s.engine ∧
    (State.enterNoPaper s d).sweep = s.sweep ∧ (State.enterNoPaper s d).scrub = s.scrub ∧
    (State.enterNoPaper s d).journal = s.journal ∧ (State.enterNoPaper s d).shares = s.shares ∧
    (State.enterNoPaper s d).pending = s.pending := by
  refine ⟨?_, ?_, ?_, ?_, ?_, ?_, ?_, ?_, ?_, ?_, ?_, ?_, ?_⟩ <;>
  ((unfold State.enterNoPaper; first | rfl | (simp; done) | (((try dsimp only); repeat' split) <;> first | rfl | (simp; done) | (simp_all; done))))

@[simp] theorem State.enterStalled_frame (s : State) (d : Desk) :
    (State.enterStalled s d).control = s.control ∧ (State.enterStalled s d).clock = s.clock ∧
    (State.enterStalled s d).policy = s.policy ∧ (State.enterStalled s d).borrowers = s.borrowers ∧
    (State.enterStalled s d).loans = s.loans ∧ (State.enterStalled s d).loanLists = s.loanLists ∧
    (State.enterStalled s d).items = s.items ∧ (State.enterStalled s d).engine = s.engine ∧
    (State.enterStalled s d).sweep = s.sweep ∧ (State.enterStalled s d).scrub = s.scrub ∧
    (State.enterStalled s d).journal = s.journal ∧ (State.enterStalled s d).shares = s.shares ∧
    (State.enterStalled s d).pending = s.pending := by
  refine ⟨?_, ?_, ?_, ?_, ?_, ?_, ?_, ?_, ?_, ?_, ?_, ?_, ?_⟩ <;>
  ((unfold State.enterStalled; first | rfl | (simp; done) | (((try dsimp only); repeat' split) <;> first | rfl | (simp; done) | (simp_all; done))))

@[simp] theorem State.printHead_frame (s : State) (d : Desk) :
    (State.printHead s d).control = s.control ∧ (State.printHead s d).clock = s.clock ∧
    (State.printHead s d).policy = s.policy ∧ (State.printHead s d).borrowers = s.borrowers ∧
    (State.printHead s d).loans = s.loans ∧ (State.printHead s d).loanLists = s.loanLists ∧
    (State.printHead s d).items = s.items ∧ (State.printHead s d).engine = s.engine ∧
    (State.printHead s d).sweep = s.sweep ∧ (State.printHead s d).scrub = s.scrub ∧
    (State.printHead s d).journal = s.journal ∧ (State.printHead s d).consolePort = s.consolePort ∧
    (State.printHead s d).kioskPort = s.kioskPort ∧ (State.printHead s d).uplinkPort = s.uplinkPort ∧
    (State.printHead s d).shares = s.shares ∧ (State.printHead s d).pending = s.pending := by
  refine ⟨?_, ?_, ?_, ?_, ?_, ?_, ?_, ?_, ?_, ?_, ?_, ?_, ?_, ?_, ?_, ?_⟩ <;>
  ((unfold State.printHead; first | rfl | (simp; done) | (((try dsimp only); repeat' split) <;> first | rfl | (simp; done) | (simp_all; done))))

@[simp] theorem State.resumeHead_frame (s : State) (d : Desk) :
    (State.resumeHead s d).control = s.control ∧ (State.resumeHead s d).clock = s.clock ∧
    (State.resumeHead s d).policy = s.policy ∧ (State.resumeHead s d).borrowers = s.borrowers ∧
    (State.resumeHead s d).loans = s.loans ∧ (State.resumeHead s d).loanLists = s.loanLists ∧
    (State.resumeHead s d).items = s.items ∧ (State.resumeHead s d).engine = s.engine ∧
    (State.resumeHead s d).sweep = s.sweep ∧ (State.resumeHead s d).scrub = s.scrub ∧
    (State.resumeHead s d).journal = s.journal ∧ (State.resumeHead s d).shares = s.shares ∧
    (State.resumeHead s d).pending = s.pending := by
  refine ⟨?_, ?_, ?_, ?_, ?_, ?_, ?_, ?_, ?_, ?_, ?_, ?_, ?_⟩ <;>
  ((unfold State.resumeHead; first | rfl | (simp; done) | (((try dsimp only); repeat' split) <;> first | rfl | (simp; done) | (simp_all; done))))

@[simp] theorem State.loseSlip_frame (s : State) (x : Slip) :
    (State.loseSlip s x).control = s.control ∧ (State.loseSlip s x).clock = s.clock ∧
    (State.loseSlip s x).policy = s.policy ∧ (State.loseSlip s x).borrowers = s.borrowers ∧
    (State.loseSlip s x).loans = s.loans ∧ (State.loseSlip s x).loanLists = s.loanLists ∧
    (State.loseSlip s x).items = s.items ∧ (State.loseSlip s x).engine = s.engine ∧
    (State.loseSlip s x).sweep = s.sweep ∧ (State.loseSlip s x).scrub = s.scrub ∧
    (State.loseSlip s x).journal = s.journal ∧ (State.loseSlip s x).console = s.console ∧
    (State.loseSlip s x).kiosk = s.kiosk ∧ (State.loseSlip s x).pending = s.pending := by
  refine ⟨?_, ?_, ?_, ?_, ?_, ?_, ?_, ?_, ?_, ?_, ?_, ?_, ?_, ?_⟩ <;>
  ((unfold State.loseSlip; first | rfl | (simp; done) | (((try dsimp only); repeat' split) <;> first | rfl | (simp; done) | (simp_all; done))))

@[simp] theorem State.appendSlip_frame (s : State) (x : Slip) :
    (State.appendSlip s x).control = s.control ∧ (State.appendSlip s x).clock = s.clock ∧
    (State.appendSlip s x).policy = s.policy ∧ (State.appendSlip s x).borrowers = s.borrowers ∧
    (State.appendSlip s x).loans = s.loans ∧ (State.appendSlip s x).loanLists = s.loanLists ∧
    (State.appendSlip s x).items = s.items ∧ (State.appendSlip s x).engine = s.engine ∧
    (State.appendSlip s x).sweep = s.sweep ∧ (State.appendSlip s x).scrub = s.scrub ∧
    (State.appendSlip s x).journal = s.journal ∧ (State.appendSlip s x).consolePort = s.consolePort ∧
    (State.appendSlip s x).kioskPort = s.kioskPort ∧ (State.appendSlip s x).uplinkPort = s.uplinkPort ∧
    (State.appendSlip s x).shares = s.shares ∧ (State.appendSlip s x).pending = s.pending := by
  refine ⟨?_, ?_, ?_, ?_, ?_, ?_, ?_, ?_, ?_, ?_, ?_, ?_, ?_, ?_, ?_, ?_⟩ <;>
  ((unfold State.appendSlip; first | rfl | (simp; done) | (((try dsimp only); repeat' split) <;> first | rfl | (simp; done) | (simp_all; done))))

@[simp] theorem State.offerSlip_frame (s : State) (x : Slip) :
    (State.offerSlip s x).control = s.control ∧ (State.offerSlip s x).clock = s.clock ∧
    (State.offerSlip s x).policy = s.policy ∧ (State.offerSlip s x).borrowers = s.borrowers ∧
    (State.offerSlip s x).loans = s.loans ∧ (State.offerSlip s x).loanLists = s.loanLists ∧
    (State.offerSlip s x).items = s.items ∧ (State.offerSlip s x).engine = s.engine ∧
    (State.offerSlip s x).sweep = s.sweep ∧ (State.offerSlip s x).scrub = s.scrub ∧
    (State.offerSlip s x).journal = s.journal ∧ (State.offerSlip s x).pending = s.pending := by
  refine ⟨?_, ?_, ?_, ?_, ?_, ?_, ?_, ?_, ?_, ?_, ?_, ?_⟩ <;>
  ((unfold State.offerSlip; first | rfl | (simp; done) | (((try dsimp only); repeat' split) <;> first | rfl | (simp; done) | (simp_all; done))))

@[simp] theorem State.discardSpool_frame (s : State) (d : Desk) (cause : LostCause) :
    (State.discardSpool s d cause).control = s.control ∧ (State.discardSpool s d cause).clock = s.clock ∧
    (State.discardSpool s d cause).policy = s.policy ∧ (State.discardSpool s d cause).borrowers = s.borrowers ∧
    (State.discardSpool s d cause).loans = s.loans ∧ (State.discardSpool s d cause).loanLists = s.loanLists ∧
    (State.discardSpool s d cause).items = s.items ∧ (State.discardSpool s d cause).engine = s.engine ∧
    (State.discardSpool s d cause).sweep = s.sweep ∧ (State.discardSpool s d cause).scrub = s.scrub ∧
    (State.discardSpool s d cause).journal = s.journal ∧ (State.discardSpool s d cause).pending = s.pending := by
  refine ⟨?_, ?_, ?_, ?_, ?_, ?_, ?_, ?_, ?_, ?_, ?_, ?_⟩ <;>
  ((unfold State.discardSpool; first | rfl | (simp; done) | (((try dsimp only); repeat' split) <;> first | rfl | (simp; done) | (simp_all; done))))

@[simp] theorem State.cut_frame (s : State) (d : Desk) :
    (State.cut s d).control = s.control ∧ (State.cut s d).clock = s.clock ∧ (State.cut s d).policy = s.policy ∧
    (State.cut s d).borrowers = s.borrowers ∧ (State.cut s d).loans = s.loans ∧
    (State.cut s d).loanLists = s.loanLists ∧ (State.cut s d).items = s.items ∧
    (State.cut s d).engine = s.engine ∧ (State.cut s d).sweep = s.sweep ∧ (State.cut s d).scrub = s.scrub ∧
    (State.cut s d).journal = s.journal ∧ (State.cut s d).pending = s.pending := by
  refine ⟨?_, ?_, ?_, ?_, ?_, ?_, ?_, ?_, ?_, ?_, ?_, ?_⟩ <;>
  ((unfold State.cut; first | rfl | (simp; done) | (((try dsimp only); repeat' split) <;> first | rfl | (simp; done) | (simp_all; done))))

@[simp] theorem State.joinLine_frame (s : State) (d : Desk) (l : SlipLine) (borrower day time : Nat) :
    (State.joinLine s d l borrower day time).control = s.control ∧
    (State.joinLine s d l borrower day time).clock = s.clock ∧
    (State.joinLine s d l borrower day time).policy = s.policy ∧
    (State.joinLine s d l borrower day time).borrowers = s.borrowers ∧
    (State.joinLine s d l borrower day time).loans = s.loans ∧
    (State.joinLine s d l borrower day time).loanLists = s.loanLists ∧
    (State.joinLine s d l borrower day time).items = s.items ∧
    (State.joinLine s d l borrower day time).engine = s.engine ∧
    (State.joinLine s d l borrower day time).sweep = s.sweep ∧
    (State.joinLine s d l borrower day time).scrub = s.scrub ∧
    (State.joinLine s d l borrower day time).journal = s.journal ∧
    (State.joinLine s d l borrower day time).consolePort = s.consolePort ∧
    (State.joinLine s d l borrower day time).kioskPort = s.kioskPort ∧
    (State.joinLine s d l borrower day time).uplinkPort = s.uplinkPort ∧
    (State.joinLine s d l borrower day time).shares = s.shares ∧
    (State.joinLine s d l borrower day time).pending = s.pending := by
  refine ⟨?_, ?_, ?_, ?_, ?_, ?_, ?_, ?_, ?_, ?_, ?_, ?_, ?_, ?_, ?_, ?_⟩ <;>
  ((unfold State.joinLine; first | rfl | (simp; done) | (((try dsimp only); repeat' split) <;> first | rfl | (simp; done) | (simp_all; done))))

@[simp] theorem State.afterOtherCut_frame (s : State) (d : Desk) (borrower : Nat) :
    (State.afterOtherCut s d borrower).control = s.control ∧ (State.afterOtherCut s d borrower).clock = s.clock ∧
    (State.afterOtherCut s d borrower).policy = s.policy ∧
    (State.afterOtherCut s d borrower).borrowers = s.borrowers ∧
    (State.afterOtherCut s d borrower).loans = s.loans ∧
    (State.afterOtherCut s d borrower).loanLists = s.loanLists ∧
    (State.afterOtherCut s d borrower).items = s.items ∧ (State.afterOtherCut s d borrower).engine = s.engine ∧
    (State.afterOtherCut s d borrower).sweep = s.sweep ∧ (State.afterOtherCut s d borrower).scrub = s.scrub ∧
    (State.afterOtherCut s d borrower).journal = s.journal ∧
    (State.afterOtherCut s d borrower).pending = s.pending := by
  refine ⟨?_, ?_, ?_, ?_, ?_, ?_, ?_, ?_, ?_, ?_, ?_, ?_⟩ <;>
  ((unfold State.afterOtherCut; first | rfl | (simp; done) | (((try dsimp only); repeat' split) <;> first | rfl | (simp; done) | (simp_all; done))))

@[simp] theorem State.addLine_frame (s : State) (d : Desk) (l : SlipLine) (borrower day time : Nat) :
    (State.addLine s d l borrower day time).control = s.control ∧
    (State.addLine s d l borrower day time).clock = s.clock ∧
    (State.addLine s d l borrower day time).policy = s.policy ∧
    (State.addLine s d l borrower day time).borrowers = s.borrowers ∧
    (State.addLine s d l borrower day time).loans = s.loans ∧
    (State.addLine s d l borrower day time).loanLists = s.loanLists ∧
    (State.addLine s d l borrower day time).items = s.items ∧
    (State.addLine s d l borrower day time).engine = s.engine ∧
    (State.addLine s d l borrower day time).sweep = s.sweep ∧
    (State.addLine s d l borrower day time).scrub = s.scrub ∧
    (State.addLine s d l borrower day time).journal = s.journal ∧
    (State.addLine s d l borrower day time).pending = s.pending := by
  refine ⟨?_, ?_, ?_, ?_, ?_, ?_, ?_, ?_, ?_, ?_, ?_, ?_⟩ <;>
  ((unfold State.addLine; first | rfl | (simp; done) | (((try dsimp only); repeat' split) <;> first | rfl | (simp; done) | (simp_all; done))))

@[simp] theorem State.evalWand_frame (s : State) (d : Desk) :
    (State.evalWand s d).control = s.control ∧ (State.evalWand s d).clock = s.clock ∧
    (State.evalWand s d).policy = s.policy ∧ (State.evalWand s d).borrowers = s.borrowers ∧
    (State.evalWand s d).loans = s.loans ∧ (State.evalWand s d).loanLists = s.loanLists ∧
    (State.evalWand s d).items = s.items ∧ (State.evalWand s d).engine = s.engine ∧
    (State.evalWand s d).sweep = s.sweep ∧ (State.evalWand s d).scrub = s.scrub ∧
    (State.evalWand s d).journal = s.journal ∧ (State.evalWand s d).consolePort = s.consolePort ∧
    (State.evalWand s d).kioskPort = s.kioskPort ∧ (State.evalWand s d).uplinkPort = s.uplinkPort ∧
    (State.evalWand s d).shares = s.shares ∧ (State.evalWand s d).pending = s.pending := by
  refine ⟨?_, ?_, ?_, ?_, ?_, ?_, ?_, ?_, ?_, ?_, ?_, ?_, ?_, ?_, ?_, ?_⟩ <;>
  ((unfold State.evalWand; first | rfl | (simp; done) | (((try dsimp only); repeat' split) <;> first | rfl | (simp; done) | (simp_all; done))))

@[simp] theorem State.wandsOff_frame (s : State) :
    (State.wandsOff s).control = s.control ∧ (State.wandsOff s).clock = s.clock ∧
    (State.wandsOff s).policy = s.policy ∧ (State.wandsOff s).borrowers = s.borrowers ∧
    (State.wandsOff s).loans = s.loans ∧ (State.wandsOff s).loanLists = s.loanLists ∧
    (State.wandsOff s).items = s.items ∧ (State.wandsOff s).engine = s.engine ∧
    (State.wandsOff s).sweep = s.sweep ∧ (State.wandsOff s).scrub = s.scrub ∧
    (State.wandsOff s).journal = s.journal ∧ (State.wandsOff s).consolePort = s.consolePort ∧
    (State.wandsOff s).kioskPort = s.kioskPort ∧ (State.wandsOff s).uplinkPort = s.uplinkPort ∧
    (State.wandsOff s).shares = s.shares ∧ (State.wandsOff s).pending = s.pending := by
  refine ⟨?_, ?_, ?_, ?_, ?_, ?_, ?_, ?_, ?_, ?_, ?_, ?_, ?_, ?_, ?_, ?_⟩ <;>
  ((unfold State.wandsOff; first | rfl | (simp; done) | (((try dsimp only); repeat' split) <;> first | rfl | (simp; done) | (simp_all; done))))

@[simp] theorem State.wandModeChanged_frame (s : State) (d : Desk) :
    (State.wandModeChanged s d).control = s.control ∧ (State.wandModeChanged s d).clock = s.clock ∧
    (State.wandModeChanged s d).policy = s.policy ∧ (State.wandModeChanged s d).borrowers = s.borrowers ∧
    (State.wandModeChanged s d).loans = s.loans ∧ (State.wandModeChanged s d).loanLists = s.loanLists ∧
    (State.wandModeChanged s d).items = s.items ∧ (State.wandModeChanged s d).engine = s.engine ∧
    (State.wandModeChanged s d).sweep = s.sweep ∧ (State.wandModeChanged s d).scrub = s.scrub ∧
    (State.wandModeChanged s d).journal = s.journal ∧ (State.wandModeChanged s d).consolePort = s.consolePort ∧
    (State.wandModeChanged s d).kioskPort = s.kioskPort ∧ (State.wandModeChanged s d).uplinkPort = s.uplinkPort ∧
    (State.wandModeChanged s d).shares = s.shares ∧ (State.wandModeChanged s d).pending = s.pending := by
  refine ⟨?_, ?_, ?_, ?_, ?_, ?_, ?_, ?_, ?_, ?_, ?_, ?_, ?_, ?_, ?_, ?_⟩ <;>
  ((unfold State.wandModeChanged; first | rfl | (simp; done) | (((try dsimp only); repeat' split) <;> first | rfl | (simp; done) | (simp_all; done))))

@[simp] theorem State.misread_frame (s : State) (d : Desk) (m : Misread) :
    (State.misread s d m).control = s.control ∧ (State.misread s d m).clock = s.clock ∧
    (State.misread s d m).policy = s.policy ∧ (State.misread s d m).borrowers = s.borrowers ∧
    (State.misread s d m).loans = s.loans ∧ (State.misread s d m).loanLists = s.loanLists ∧
    (State.misread s d m).items = s.items ∧ (State.misread s d m).engine = s.engine ∧
    (State.misread s d m).sweep = s.sweep ∧ (State.misread s d m).scrub = s.scrub ∧
    (State.misread s d m).journal = s.journal ∧ (State.misread s d m).console = s.console ∧
    (State.misread s d m).kiosk = s.kiosk ∧ (State.misread s d m).consolePort = s.consolePort ∧
    (State.misread s d m).kioskPort = s.kioskPort ∧ (State.misread s d m).uplinkPort = s.uplinkPort ∧
    (State.misread s d m).pending = s.pending := by
  refine ⟨?_, ?_, ?_, ?_, ?_, ?_, ?_, ?_, ?_, ?_, ?_, ?_, ?_, ?_, ?_, ?_, ?_⟩ <;>
  ((unfold State.misread; first | rfl | (simp; done) | (((try dsimp only); repeat' split) <;> first | rfl | (simp; done) | (simp_all; done))))

@[simp] theorem State.restartIdle_frame (s : State) (d : Desk) (borrower : Nat) :
    (State.restartIdle s d borrower).control = s.control ∧ (State.restartIdle s d borrower).clock = s.clock ∧
    (State.restartIdle s d borrower).policy = s.policy ∧
    (State.restartIdle s d borrower).borrowers = s.borrowers ∧ (State.restartIdle s d borrower).loans = s.loans ∧
    (State.restartIdle s d borrower).loanLists = s.loanLists ∧ (State.restartIdle s d borrower).items = s.items ∧
    (State.restartIdle s d borrower).engine = s.engine ∧ (State.restartIdle s d borrower).sweep = s.sweep ∧
    (State.restartIdle s d borrower).scrub = s.scrub ∧ (State.restartIdle s d borrower).journal = s.journal ∧
    (State.restartIdle s d borrower).consolePort = s.consolePort ∧
    (State.restartIdle s d borrower).kioskPort = s.kioskPort ∧
    (State.restartIdle s d borrower).uplinkPort = s.uplinkPort ∧
    (State.restartIdle s d borrower).shares = s.shares ∧ (State.restartIdle s d borrower).pending = s.pending := by
  refine ⟨?_, ?_, ?_, ?_, ?_, ?_, ?_, ?_, ?_, ?_, ?_, ?_, ?_, ?_, ?_, ?_⟩ <;>
  ((unfold State.restartIdle; first | rfl | (simp; done) | (((try dsimp only); repeat' split) <;> first | rfl | (simp; done) | (simp_all; done))))

@[simp] theorem State.setBound_frame (s : State) (d : Desk) (b : Binding) :
    (State.setBound s d b).control = s.control ∧ (State.setBound s d b).clock = s.clock ∧
    (State.setBound s d b).policy = s.policy ∧ (State.setBound s d b).borrowers = s.borrowers ∧
    (State.setBound s d b).loans = s.loans ∧ (State.setBound s d b).loanLists = s.loanLists ∧
    (State.setBound s d b).items = s.items ∧ (State.setBound s d b).engine = s.engine ∧
    (State.setBound s d b).sweep = s.sweep ∧ (State.setBound s d b).scrub = s.scrub ∧
    (State.setBound s d b).journal = s.journal ∧ (State.setBound s d b).shares = s.shares ∧
    (State.setBound s d b).pending = s.pending := by
  refine ⟨?_, ?_, ?_, ?_, ?_, ?_, ?_, ?_, ?_, ?_, ?_, ?_, ?_⟩ <;>
  ((unfold State.setBound; first | rfl | (simp; done) | (((try dsimp only); repeat' split) <;> first | rfl | (simp; done) | (simp_all; done))))

@[simp] theorem State.bind_frame (s : State) (d : Desk) (number time : Nat) :
    (State.bind s d number time).control = s.control ∧ (State.bind s d number time).clock = s.clock ∧
    (State.bind s d number time).policy = s.policy ∧ (State.bind s d number time).borrowers = s.borrowers ∧
    (State.bind s d number time).loans = s.loans ∧ (State.bind s d number time).loanLists = s.loanLists ∧
    (State.bind s d number time).items = s.items ∧ (State.bind s d number time).engine = s.engine ∧
    (State.bind s d number time).sweep = s.sweep ∧ (State.bind s d number time).scrub = s.scrub ∧
    (State.bind s d number time).journal = s.journal ∧ (State.bind s d number time).pending = s.pending := by
  refine ⟨?_, ?_, ?_, ?_, ?_, ?_, ?_, ?_, ?_, ?_, ?_, ?_⟩ <;>
  ((unfold State.bind; first | rfl | (simp; done) | (((try dsimp only); repeat' split) <;> first | rfl | (simp; done) | (simp_all; done))))

@[simp] theorem State.clearBound_frame (s : State) (d : Desk) (cause : UnbindCause) :
    (State.clearBound s d cause).control = s.control ∧ (State.clearBound s d cause).clock = s.clock ∧
    (State.clearBound s d cause).policy = s.policy ∧ (State.clearBound s d cause).borrowers = s.borrowers ∧
    (State.clearBound s d cause).loans = s.loans ∧ (State.clearBound s d cause).loanLists = s.loanLists ∧
    (State.clearBound s d cause).items = s.items ∧ (State.clearBound s d cause).engine = s.engine ∧
    (State.clearBound s d cause).sweep = s.sweep ∧ (State.clearBound s d cause).scrub = s.scrub ∧
    (State.clearBound s d cause).journal = s.journal ∧ (State.clearBound s d cause).shares = s.shares ∧
    (State.clearBound s d cause).pending = s.pending := by
  refine ⟨?_, ?_, ?_, ?_, ?_, ?_, ?_, ?_, ?_, ?_, ?_, ?_, ?_⟩ <;>
  ((unfold State.clearBound; first | rfl | (simp; done) | (((try dsimp only); repeat' split) <;> first | rfl | (simp; done) | (simp_all; done))))

@[simp] theorem State.unbindOrCut_frame (s : State) (d : Desk) (cause : UnbindCause) :
    (State.unbindOrCut s d cause).control = s.control ∧ (State.unbindOrCut s d cause).clock = s.clock ∧
    (State.unbindOrCut s d cause).policy = s.policy ∧ (State.unbindOrCut s d cause).borrowers = s.borrowers ∧
    (State.unbindOrCut s d cause).loans = s.loans ∧ (State.unbindOrCut s d cause).loanLists = s.loanLists ∧
    (State.unbindOrCut s d cause).items = s.items ∧ (State.unbindOrCut s d cause).engine = s.engine ∧
    (State.unbindOrCut s d cause).sweep = s.sweep ∧ (State.unbindOrCut s d cause).scrub = s.scrub ∧
    (State.unbindOrCut s d cause).journal = s.journal ∧ (State.unbindOrCut s d cause).pending = s.pending := by
  refine ⟨?_, ?_, ?_, ?_, ?_, ?_, ?_, ?_, ?_, ?_, ?_, ?_⟩ <;>
  ((unfold State.unbindOrCut; first | rfl | (simp; done) | (((try dsimp only); repeat' split) <;> first | rfl | (simp; done) | (simp_all; done))))

@[simp] theorem State.unbindIfBound_frame (s : State) (d : Desk) (cause : UnbindCause) :
    (State.unbindIfBound s d cause).control = s.control ∧ (State.unbindIfBound s d cause).clock = s.clock ∧
    (State.unbindIfBound s d cause).policy = s.policy ∧ (State.unbindIfBound s d cause).borrowers = s.borrowers ∧
    (State.unbindIfBound s d cause).loans = s.loans ∧ (State.unbindIfBound s d cause).loanLists = s.loanLists ∧
    (State.unbindIfBound s d cause).items = s.items ∧ (State.unbindIfBound s d cause).engine = s.engine ∧
    (State.unbindIfBound s d cause).sweep = s.sweep ∧ (State.unbindIfBound s d cause).scrub = s.scrub ∧
    (State.unbindIfBound s d cause).journal = s.journal ∧ (State.unbindIfBound s d cause).pending = s.pending := by
  refine ⟨?_, ?_, ?_, ?_, ?_, ?_, ?_, ?_, ?_, ?_, ?_, ?_⟩ <;>
  ((unfold State.unbindIfBound; first | rfl | (simp; done) | (((try dsimp only); repeat' split) <;> first | rfl | (simp; done) | (simp_all; done))))

@[simp] theorem State.queueLabel_frame (s : State) (d : Desk) (r : LabelReport) :
    (State.queueLabel s d r).control = s.control ∧ (State.queueLabel s d r).clock = s.clock ∧
    (State.queueLabel s d r).policy = s.policy ∧ (State.queueLabel s d r).borrowers = s.borrowers ∧
    (State.queueLabel s d r).loans = s.loans ∧ (State.queueLabel s d r).loanLists = s.loanLists ∧
    (State.queueLabel s d r).items = s.items ∧ (State.queueLabel s d r).engine = s.engine ∧
    (State.queueLabel s d r).sweep = s.sweep ∧ (State.queueLabel s d r).scrub = s.scrub ∧
    (State.queueLabel s d r).journal = s.journal ∧ (State.queueLabel s d r).shares = s.shares ∧
    (State.queueLabel s d r).pending = s.pending := by
  refine ⟨?_, ?_, ?_, ?_, ?_, ?_, ?_, ?_, ?_, ?_, ?_, ?_, ?_⟩ <;>
  ((unfold State.queueLabel; first | rfl | (simp; done) | (((try dsimp only); repeat' split) <;> first | rfl | (simp; done) | (simp_all; done))))

@[simp] theorem State.labelArrives_frame (s : State) (d : Desk) (r : LabelReport) :
    (State.labelArrives s d r).control = s.control ∧ (State.labelArrives s d r).clock = s.clock ∧
    (State.labelArrives s d r).policy = s.policy ∧ (State.labelArrives s d r).borrowers = s.borrowers ∧
    (State.labelArrives s d r).loans = s.loans ∧ (State.labelArrives s d r).loanLists = s.loanLists ∧
    (State.labelArrives s d r).items = s.items ∧ (State.labelArrives s d r).engine = s.engine ∧
    (State.labelArrives s d r).sweep = s.sweep ∧ (State.labelArrives s d r).scrub = s.scrub ∧
    (State.labelArrives s d r).journal = s.journal ∧ (State.labelArrives s d r).pending = s.pending := by
  refine ⟨?_, ?_, ?_, ?_, ?_, ?_, ?_, ?_, ?_, ?_, ?_, ?_⟩ <;>
  ((unfold State.labelArrives; first | rfl | (simp; done) | (((try dsimp only); repeat' split) <;> first | rfl | (simp; done) | (simp_all; done))))

@[simp] theorem State.takeLabel_frame (s : State) (d : Desk) :
    (State.takeLabel s d).control = s.control ∧ (State.takeLabel s d).clock = s.clock ∧
    (State.takeLabel s d).policy = s.policy ∧ (State.takeLabel s d).borrowers = s.borrowers ∧
    (State.takeLabel s d).loans = s.loans ∧ (State.takeLabel s d).loanLists = s.loanLists ∧
    (State.takeLabel s d).items = s.items ∧ (State.takeLabel s d).engine = s.engine ∧
    (State.takeLabel s d).sweep = s.sweep ∧ (State.takeLabel s d).scrub = s.scrub ∧
    (State.takeLabel s d).journal = s.journal ∧ (State.takeLabel s d).consolePort = s.consolePort ∧
    (State.takeLabel s d).kioskPort = s.kioskPort ∧ (State.takeLabel s d).uplinkPort = s.uplinkPort ∧
    (State.takeLabel s d).shares = s.shares ∧ (State.takeLabel s d).pending = s.pending := by
  refine ⟨?_, ?_, ?_, ?_, ?_, ?_, ?_, ?_, ?_, ?_, ?_, ?_, ?_, ?_, ?_, ?_⟩ <;>
  ((unfold State.takeLabel; first | rfl | (simp; done) | (((try dsimp only); repeat' split) <;> first | rfl | (simp; done) | (simp_all; done))))

@[simp] theorem State.drainDesk_frame (s : State) (d : Desk) :
    (State.drainDesk s d).control = s.control ∧ (State.drainDesk s d).clock = s.clock ∧
    (State.drainDesk s d).policy = s.policy ∧ (State.drainDesk s d).borrowers = s.borrowers ∧
    (State.drainDesk s d).loans = s.loans ∧ (State.drainDesk s d).loanLists = s.loanLists ∧
    (State.drainDesk s d).items = s.items ∧ (State.drainDesk s d).engine = s.engine ∧
    (State.drainDesk s d).sweep = s.sweep ∧ (State.drainDesk s d).scrub = s.scrub ∧
    (State.drainDesk s d).journal = s.journal ∧ (State.drainDesk s d).pending = s.pending := by
  refine ⟨?_, ?_, ?_, ?_, ?_, ?_, ?_, ?_, ?_, ?_, ?_, ?_⟩ <;>
  ((unfold State.drainDesk; first | rfl | (simp; done) | (((try dsimp only); repeat' split) <;> first | rfl | (simp; done) | (simp_all; done))))

@[simp] theorem State.endDrain_frame (s : State) :
    (State.endDrain s).clock = s.clock ∧ (State.endDrain s).policy = s.policy ∧
    (State.endDrain s).borrowers = s.borrowers ∧ (State.endDrain s).loans = s.loans ∧
    (State.endDrain s).loanLists = s.loanLists ∧ (State.endDrain s).items = s.items ∧
    (State.endDrain s).engine = s.engine ∧ (State.endDrain s).sweep = s.sweep ∧
    (State.endDrain s).scrub = s.scrub ∧ (State.endDrain s).journal = s.journal ∧
    (State.endDrain s).pending = s.pending := by
  refine ⟨?_, ?_, ?_, ?_, ?_, ?_, ?_, ?_, ?_, ?_, ?_⟩ <;>
  ((unfold State.endDrain; first | rfl | (simp; done) | (((try dsimp only); repeat' split) <;> first | rfl | (simp; done) | (simp_all; done))))

@[simp] theorem State.drainCheck_frame (s : State) :
    (State.drainCheck s).clock = s.clock ∧ (State.drainCheck s).policy = s.policy ∧
    (State.drainCheck s).borrowers = s.borrowers ∧ (State.drainCheck s).loans = s.loans ∧
    (State.drainCheck s).loanLists = s.loanLists ∧ (State.drainCheck s).items = s.items ∧
    (State.drainCheck s).engine = s.engine ∧ (State.drainCheck s).sweep = s.sweep ∧
    (State.drainCheck s).scrub = s.scrub ∧ (State.drainCheck s).journal = s.journal ∧
    (State.drainCheck s).pending = s.pending := by
  refine ⟨?_, ?_, ?_, ?_, ?_, ?_, ?_, ?_, ?_, ?_, ?_⟩ <;>
  ((unfold State.drainCheck; first | rfl | (simp; done) | (((try dsimp only); repeat' split) <;> first | rfl | (simp; done) | (simp_all; done))))

@[simp] theorem State.printerOpens_frame (s : State) (d : Desk) :
    (State.printerOpens s d).control = s.control ∧ (State.printerOpens s d).clock = s.clock ∧
    (State.printerOpens s d).policy = s.policy ∧ (State.printerOpens s d).borrowers = s.borrowers ∧
    (State.printerOpens s d).loans = s.loans ∧ (State.printerOpens s d).loanLists = s.loanLists ∧
    (State.printerOpens s d).items = s.items ∧ (State.printerOpens s d).engine = s.engine ∧
    (State.printerOpens s d).sweep = s.sweep ∧ (State.printerOpens s d).scrub = s.scrub ∧
    (State.printerOpens s d).journal = s.journal ∧ (State.printerOpens s d).shares = s.shares ∧
    (State.printerOpens s d).pending = s.pending := by
  refine ⟨?_, ?_, ?_, ?_, ?_, ?_, ?_, ?_, ?_, ?_, ?_, ?_, ?_⟩ <;>
  ((unfold State.printerOpens; first | rfl | (simp; done) | (((try dsimp only); repeat' split) <;> first | rfl | (simp; done) | (simp_all; done))))

@[simp] theorem State.enterOpen_frame (s : State) :
    (State.enterOpen s).clock = s.clock ∧ (State.enterOpen s).policy = s.policy ∧
    (State.enterOpen s).borrowers = s.borrowers ∧ (State.enterOpen s).loans = s.loans ∧
    (State.enterOpen s).loanLists = s.loanLists ∧ (State.enterOpen s).items = s.items ∧
    (State.enterOpen s).engine = s.engine ∧ (State.enterOpen s).sweep = s.sweep ∧
    (State.enterOpen s).scrub = s.scrub ∧ (State.enterOpen s).journal = s.journal ∧
    (State.enterOpen s).shares = s.shares ∧ (State.enterOpen s).pending = s.pending := by
  refine ⟨?_, ?_, ?_, ?_, ?_, ?_, ?_, ?_, ?_, ?_, ?_, ?_⟩ <;>
  ((unfold State.enterOpen; first | rfl | (simp; done) | (((try dsimp only); repeat' split) <;> first | rfl | (simp; done) | (simp_all; done))))

@[simp] theorem State.deskNight_frame (s : State) (d : Desk) :
    (State.deskNight s d).control = s.control ∧ (State.deskNight s d).clock = s.clock ∧
    (State.deskNight s d).policy = s.policy ∧ (State.deskNight s d).borrowers = s.borrowers ∧
    (State.deskNight s d).loans = s.loans ∧ (State.deskNight s d).loanLists = s.loanLists ∧
    (State.deskNight s d).items = s.items ∧ (State.deskNight s d).engine = s.engine ∧
    (State.deskNight s d).sweep = s.sweep ∧ (State.deskNight s d).scrub = s.scrub ∧
    (State.deskNight s d).journal = s.journal ∧ (State.deskNight s d).pending = s.pending := by
  refine ⟨?_, ?_, ?_, ?_, ?_, ?_, ?_, ?_, ?_, ?_, ?_, ?_⟩ <;>
  ((unfold State.deskNight; first | rfl | (simp; done) | (((try dsimp only); repeat' split) <;> first | rfl | (simp; done) | (simp_all; done))))

@[simp] theorem State.nightEffects_frame (s : State) :
    (State.nightEffects s).clock = s.clock ∧ (State.nightEffects s).policy = s.policy ∧
    (State.nightEffects s).borrowers = s.borrowers ∧ (State.nightEffects s).loans = s.loans ∧
    (State.nightEffects s).loanLists = s.loanLists ∧ (State.nightEffects s).items = s.items ∧
    (State.nightEffects s).engine = s.engine ∧ (State.nightEffects s).sweep = s.sweep ∧
    (State.nightEffects s).scrub = s.scrub ∧ (State.nightEffects s).journal = s.journal ∧
    (State.nightEffects s).pending = s.pending := by
  refine ⟨?_, ?_, ?_, ?_, ?_, ?_, ?_, ?_, ?_, ?_, ?_⟩ <;>
  ((unfold State.nightEffects; first | rfl | (simp; done) | (((try dsimp only); repeat' split) <;> first | rfl | (simp; done) | (simp_all; done))))

@[simp] theorem State.openIfDue_frame (s : State) :
    (State.openIfDue s).clock = s.clock ∧ (State.openIfDue s).policy = s.policy ∧
    (State.openIfDue s).borrowers = s.borrowers ∧ (State.openIfDue s).loans = s.loans ∧
    (State.openIfDue s).loanLists = s.loanLists ∧ (State.openIfDue s).items = s.items ∧
    (State.openIfDue s).engine = s.engine ∧ (State.openIfDue s).sweep = s.sweep ∧
    (State.openIfDue s).scrub = s.scrub ∧ (State.openIfDue s).journal = s.journal ∧
    (State.openIfDue s).shares = s.shares ∧ (State.openIfDue s).pending = s.pending := by
  refine ⟨?_, ?_, ?_, ?_, ?_, ?_, ?_, ?_, ?_, ?_, ?_, ?_⟩ <;>
  ((unfold State.openIfDue; first | rfl | (simp; done) | (((try dsimp only); repeat' split) <;> first | rfl | (simp; done) | (simp_all; done))))

@[simp] theorem State.enterNight_frame (s : State) :
    (State.enterNight s).clock = s.clock ∧ (State.enterNight s).policy = s.policy ∧
    (State.enterNight s).borrowers = s.borrowers ∧ (State.enterNight s).loans = s.loans ∧
    (State.enterNight s).loanLists = s.loanLists ∧ (State.enterNight s).items = s.items ∧
    (State.enterNight s).engine = s.engine ∧ (State.enterNight s).sweep = s.sweep ∧
    (State.enterNight s).scrub = s.scrub ∧ (State.enterNight s).journal = s.journal ∧
    (State.enterNight s).pending = s.pending := by
  refine ⟨?_, ?_, ?_, ?_, ?_, ?_, ?_, ?_, ?_, ?_, ?_⟩ <;>
  ((unfold State.enterNight; first | rfl | (simp; done) | (((try dsimp only); repeat' split) <;> first | rfl | (simp; done) | (simp_all; done))))

@[simp] theorem State.passage_frame (s : State) :
    (State.passage s).clock = s.clock ∧ (State.passage s).policy = s.policy ∧
    (State.passage s).borrowers = s.borrowers ∧ (State.passage s).loans = s.loans ∧
    (State.passage s).loanLists = s.loanLists ∧ (State.passage s).items = s.items ∧
    (State.passage s).engine = s.engine ∧ (State.passage s).sweep = s.sweep ∧ (State.passage s).scrub = s.scrub ∧
    (State.passage s).journal = s.journal ∧ (State.passage s).pending = s.pending := by
  refine ⟨?_, ?_, ?_, ?_, ?_, ?_, ?_, ?_, ?_, ?_, ?_⟩ <;>
  ((unfold State.passage; first | rfl | (simp; done) | (((try dsimp only); repeat' split) <;> first | rfl | (simp; done) | (simp_all; done))))

@[simp] theorem State.settle_frame (s : State) :
    (State.settle s).clock = s.clock ∧ (State.settle s).policy = s.policy ∧
    (State.settle s).borrowers = s.borrowers ∧ (State.settle s).loans = s.loans ∧
    (State.settle s).loanLists = s.loanLists ∧ (State.settle s).items = s.items ∧
    (State.settle s).engine = s.engine ∧ (State.settle s).sweep = s.sweep ∧ (State.settle s).scrub = s.scrub ∧
    (State.settle s).journal = s.journal ∧ (State.settle s).pending = s.pending := by
  refine ⟨?_, ?_, ?_, ?_, ?_, ?_, ?_, ?_, ?_, ?_, ?_⟩ <;>
  ((unfold State.settle; first | rfl | (simp; done) | (((try dsimp only); repeat' split) <;> first | rfl | (simp; done) | (simp_all; done))))

@[simp] theorem State.enterClosing_frame (s : State) :
    (State.enterClosing s).clock = s.clock ∧ (State.enterClosing s).policy = s.policy ∧
    (State.enterClosing s).borrowers = s.borrowers ∧ (State.enterClosing s).loans = s.loans ∧
    (State.enterClosing s).loanLists = s.loanLists ∧ (State.enterClosing s).items = s.items ∧
    (State.enterClosing s).engine = s.engine ∧ (State.enterClosing s).sweep = s.sweep ∧
    (State.enterClosing s).scrub = s.scrub ∧ (State.enterClosing s).journal = s.journal ∧
    (State.enterClosing s).pending = s.pending := by
  refine ⟨?_, ?_, ?_, ?_, ?_, ?_, ?_, ?_, ?_, ?_, ?_⟩ <;>
  ((unfold State.enterClosing; first | rfl | (simp; done) | (((try dsimp only); repeat' split) <;> first | rfl | (simp; done) | (simp_all; done))))

@[simp] theorem State.openingEvent_frame (s : State) :
    (State.openingEvent s).clock = s.clock ∧ (State.openingEvent s).policy = s.policy ∧
    (State.openingEvent s).borrowers = s.borrowers ∧ (State.openingEvent s).loans = s.loans ∧
    (State.openingEvent s).loanLists = s.loanLists ∧ (State.openingEvent s).items = s.items ∧
    (State.openingEvent s).engine = s.engine ∧ (State.openingEvent s).sweep = s.sweep ∧
    (State.openingEvent s).scrub = s.scrub ∧ (State.openingEvent s).journal = s.journal ∧
    (State.openingEvent s).shares = s.shares ∧ (State.openingEvent s).pending = s.pending := by
  refine ⟨?_, ?_, ?_, ?_, ?_, ?_, ?_, ?_, ?_, ?_, ?_, ?_⟩ <;>
  ((unfold State.openingEvent; first | rfl | (simp; done) | (((try dsimp only); repeat' split) <;> first | rfl | (simp; done) | (simp_all; done))))

@[simp] theorem State.closingEvent_frame (s : State) :
    (State.closingEvent s).clock = s.clock ∧ (State.closingEvent s).policy = s.policy ∧
    (State.closingEvent s).borrowers = s.borrowers ∧ (State.closingEvent s).loans = s.loans ∧
    (State.closingEvent s).loanLists = s.loanLists ∧ (State.closingEvent s).items = s.items ∧
    (State.closingEvent s).engine = s.engine ∧ (State.closingEvent s).sweep = s.sweep ∧
    (State.closingEvent s).scrub = s.scrub ∧ (State.closingEvent s).journal = s.journal ∧
    (State.closingEvent s).pending = s.pending := by
  refine ⟨?_, ?_, ?_, ?_, ?_, ?_, ?_, ?_, ?_, ?_, ?_⟩ <;>
  ((unfold State.closingEvent; first | rfl | (simp; done) | (((try dsimp only); repeat' split) <;> first | rfl | (simp; done) | (simp_all; done))))

@[simp] theorem State.reevaluate_frame (s : State) :
    (State.reevaluate s).clock = s.clock ∧ (State.reevaluate s).policy = s.policy ∧
    (State.reevaluate s).borrowers = s.borrowers ∧ (State.reevaluate s).loans = s.loans ∧
    (State.reevaluate s).loanLists = s.loanLists ∧ (State.reevaluate s).items = s.items ∧
    (State.reevaluate s).engine = s.engine ∧ (State.reevaluate s).sweep = s.sweep ∧
    (State.reevaluate s).scrub = s.scrub ∧ (State.reevaluate s).journal = s.journal ∧
    (State.reevaluate s).pending = s.pending := by
  refine ⟨?_, ?_, ?_, ?_, ?_, ?_, ?_, ?_, ?_, ?_, ?_⟩ <;>
  ((unfold State.reevaluate; first | rfl | (simp; done) | (((try dsimp only); repeat' split) <;> first | rfl | (simp; done) | (simp_all; done))))

@[simp] theorem State.markSweep_frame (s : State) :
    (State.markSweep s).control = s.control ∧ (State.markSweep s).policy = s.policy ∧
    (State.markSweep s).borrowers = s.borrowers ∧ (State.markSweep s).loans = s.loans ∧
    (State.markSweep s).loanLists = s.loanLists ∧ (State.markSweep s).items = s.items ∧
    (State.markSweep s).engine = s.engine ∧ (State.markSweep s).sweep = s.sweep ∧
    (State.markSweep s).scrub = s.scrub ∧ (State.markSweep s).journal = s.journal ∧
    (State.markSweep s).console = s.console ∧ (State.markSweep s).kiosk = s.kiosk ∧
    (State.markSweep s).consolePort = s.consolePort ∧ (State.markSweep s).kioskPort = s.kioskPort ∧
    (State.markSweep s).uplinkPort = s.uplinkPort ∧ (State.markSweep s).shares = s.shares ∧
    (State.markSweep s).pending = s.pending := by
  refine ⟨?_, ?_, ?_, ?_, ?_, ?_, ?_, ?_, ?_, ?_, ?_, ?_, ?_, ?_, ?_, ?_, ?_⟩ <;>
  ((unfold State.markSweep; first | rfl | (simp; done) | (((try dsimp only); repeat' split) <;> first | rfl | (simp; done) | (simp_all; done))))

@[simp] theorem State.sampleBattery_frame (s : State) (below : Bool) :
    (State.sampleBattery s below).clock = s.clock ∧ (State.sampleBattery s below).policy = s.policy ∧
    (State.sampleBattery s below).borrowers = s.borrowers ∧ (State.sampleBattery s below).loans = s.loans ∧
    (State.sampleBattery s below).loanLists = s.loanLists ∧ (State.sampleBattery s below).items = s.items ∧
    (State.sampleBattery s below).engine = s.engine ∧ (State.sampleBattery s below).sweep = s.sweep ∧
    (State.sampleBattery s below).scrub = s.scrub ∧ (State.sampleBattery s below).journal = s.journal ∧
    (State.sampleBattery s below).console = s.console ∧ (State.sampleBattery s below).kiosk = s.kiosk ∧
    (State.sampleBattery s below).kioskPort = s.kioskPort ∧ (State.sampleBattery s below).shares = s.shares ∧
    (State.sampleBattery s below).pending = s.pending := by
  refine ⟨?_, ?_, ?_, ?_, ?_, ?_, ?_, ?_, ?_, ?_, ?_, ?_, ?_, ?_, ?_⟩ <;>
  ((unfold State.sampleBattery; first | rfl | (simp; done) | (((try dsimp only); repeat' split) <;> first | rfl | (simp; done) | (simp_all; done))))

@[simp] theorem State.loseVolatile_frame (s : State) :
    (State.loseVolatile s).policy = s.policy ∧ (State.loseVolatile s).borrowers = s.borrowers ∧
    (State.loseVolatile s).loans = s.loans ∧ (State.loseVolatile s).loanLists = s.loanLists ∧
    (State.loseVolatile s).items = s.items ∧ (State.loseVolatile s).pending = s.pending := by
  refine ⟨?_, ?_, ?_, ?_, ?_, ?_⟩ <;>
  ((unfold State.loseVolatile; first | rfl | (simp; done) | (((try dsimp only); repeat' split) <;> first | rfl | (simp; done) | (simp_all; done))))

end Sys2Proof.Machine
end

