-- ==== Sys2Proof/Laws/EngineFrame.lean ====
section
/-! SUPPORT. What the engine's operations leave unchanged: a grant, a refusal at a grant, and everything that happens as
the engine becomes FREE keep every record of every table, the policy, the clock and the queue. -/

namespace Sys2Proof.Machine

/-! ## Healths -/

/-- A table found at fault keeps its records and its sum, and the policy its contents, checks and sum (R46). -/
@[simp] theorem State.tableFault_tables (s : State) (t : TableId) (cause : FaultCause) (slot : Option Nat) :
    (s.tableFault t cause slot).borrowers.entries = s.borrowers.entries ∧
    (s.tableFault t cause slot).borrowers.sum = s.borrowers.sum ∧
    (s.tableFault t cause slot).loans.entries = s.loans.entries ∧
    (s.tableFault t cause slot).loans.sum = s.loans.sum ∧
    (s.tableFault t cause slot).items.entries = s.items.entries ∧
    (s.tableFault t cause slot).items.sum = s.items.sum ∧
    (s.tableFault t cause slot).policy.data = s.policy.data ∧
    (s.tableFault t cause slot).policy.checks = s.policy.checks ∧
    (s.tableFault t cause slot).policy.sum = s.policy.sum := by
  unfold State.tableFault
  split
  · simp
  · cases t <;> simp [State.setHealth]

/-- The effect of a burst's grant keeps every record; the policy stays as it is (R140 to R142). -/
@[simp] theorem State.grantEffect_tables (s : State) (op : EngineOp) :
    (s.grantEffect op).borrowers.entries = s.borrowers.entries ∧
    (s.grantEffect op).borrowers.sum = s.borrowers.sum ∧
    (s.grantEffect op).loans.entries = s.loans.entries ∧ (s.grantEffect op).loans.sum = s.loans.sum ∧
    (s.grantEffect op).items.entries = s.items.entries ∧ (s.grantEffect op).items.sum = s.items.sum ∧
    (s.grantEffect op).policy = s.policy := by
  cases op <;> simp [State.grantEffect]
  all_goals
    unfold State.tableFault
    split <;> simp [State.setHealth]

@[simp] theorem State.grantEffect_frame (s : State) (op : EngineOp) :
    (s.grantEffect op).control = s.control ∧ (s.grantEffect op).clock = s.clock ∧
    (s.grantEffect op).loanLists = s.loanLists ∧ (s.grantEffect op).engine = s.engine ∧
    (s.grantEffect op).sweep = s.sweep ∧ (s.grantEffect op).scrub = s.scrub ∧
    (s.grantEffect op).journal = s.journal ∧ (s.grantEffect op).console = s.console ∧
    (s.grantEffect op).kiosk = s.kiosk ∧ (s.grantEffect op).shares = s.shares ∧
    (s.grantEffect op).pending = s.pending := by
  cases op <;> simp [State.grantEffect]

/-! ## Grants -/

@[simp] theorem State.serve_frame (s : State) (r : Requester) (plan : Plan) :
    (s.serve r plan).control = s.control ∧ (s.serve r plan).clock = s.clock ∧ (s.serve r plan).policy = s.policy ∧
    (s.serve r plan).borrowers = s.borrowers ∧ (s.serve r plan).loans = s.loans ∧
    (s.serve r plan).loanLists = s.loanLists ∧ (s.serve r plan).items = s.items ∧
    (s.serve r plan).sweep = s.sweep ∧ (s.serve r plan).scrub = s.scrub ∧
    (s.serve r plan).journal = s.journal ∧ (s.serve r plan).console = s.console ∧
    (s.serve r plan).kiosk = s.kiosk ∧ (s.serve r plan).consolePort = s.consolePort ∧
    (s.serve r plan).kioskPort = s.kioskPort ∧ (s.serve r plan).uplinkPort = s.uplinkPort ∧
    (s.serve r plan).shares = s.shares ∧ (s.serve r plan).pending = s.pending := by
  simp [State.serve]

@[simp] theorem State.beginScrubPass_frame (s : State) :
    s.beginScrubPass.control = s.control ∧ s.beginScrubPass.clock = s.clock ∧
    s.beginScrubPass.policy = s.policy ∧ s.beginScrubPass.borrowers = s.borrowers ∧
    s.beginScrubPass.loans = s.loans ∧ s.beginScrubPass.loanLists = s.loanLists ∧
    s.beginScrubPass.items = s.items ∧ s.beginScrubPass.engine = s.engine ∧ s.beginScrubPass.sweep = s.sweep ∧
    s.beginScrubPass.journal = s.journal ∧ s.beginScrubPass.console = s.console ∧
    s.beginScrubPass.kiosk = s.kiosk ∧ s.beginScrubPass.consolePort = s.consolePort ∧
    s.beginScrubPass.kioskPort = s.kioskPort ∧ s.beginScrubPass.uplinkPort = s.uplinkPort ∧
    s.beginScrubPass.shares = s.shares ∧ s.beginScrubPass.pending = s.pending := by
  unfold State.beginScrubPass
  split <;> simp

@[simp] theorem State.markStarted_frame (s : State) (p : Port) :
    (s.markStarted p).control = s.control ∧ (s.markStarted p).clock = s.clock ∧
    (s.markStarted p).policy = s.policy ∧ (s.markStarted p).borrowers = s.borrowers ∧
    (s.markStarted p).loans = s.loans ∧ (s.markStarted p).loanLists = s.loanLists ∧
    (s.markStarted p).items = s.items ∧ (s.markStarted p).engine = s.engine ∧
    (s.markStarted p).sweep = s.sweep ∧ (s.markStarted p).scrub = s.scrub ∧
    (s.markStarted p).journal = s.journal ∧ (s.markStarted p).console = s.console ∧
    (s.markStarted p).kiosk = s.kiosk ∧ (s.markStarted p).shares = s.shares ∧
    (s.markStarted p).pending = s.pending := by
  simp [State.markStarted]

theorem SameTables.refl (s : State) : SameTables s s := by constructor <;> simp

theorem SameTables.trans {s t u : State} (h : SameTables s t) (k : SameTables t u) : SameTables s u := by
  obtain ⟨h1, h2, ⟨h3, h4⟩, ⟨h5, h6⟩, h7, ⟨h8, h9⟩, h10⟩ := h
  obtain ⟨k1, k2, ⟨k3, k4⟩, ⟨k5, k6⟩, k7, ⟨k8, k9⟩, k10⟩ := k
  constructor <;> simp_all

theorem State.grantPort_sameTables (s : State) (p : Port) : SameTables s (s.grantPort p) := by
  unfold State.grantPort
  repeat' split
  all_goals constructor <;> simp

theorem State.grantTo_sameTables (s : State) (r : Requester) : SameTables s (s.grantTo r) := by
  unfold State.grantTo
  have h : SameTables s (s.modEngine fun e => e.withdraw r) := by constructor <;> simp
  cases r <;> simp only [requesterPort]
  · exact h.trans (State.grantPort_sameTables _ _)
  · exact h.trans (State.grantPort_sameTables _ _)
  · constructor <;> simp
  · exact h.trans (State.grantPort_sameTables _ _)
  · constructor <;> simp

theorem State.freeLoop_sameTables (n : Nat) (s : State) : SameTables s (s.freeLoop n) := by
  induction n generalizing s with
  | zero => exact SameTables.refl s
  | succ n ih =>
    unfold State.freeLoop
    have h : SameTables s ((s.modEngine fun e => { e with serving := none }).flushDates.settle) := by
      constructor <;> simp
    dsimp only
    split
    · exact h
    · split
      · exact h.trans (State.grantTo_sameTables _ _)
      · exact (h.trans (State.grantTo_sameTables _ _)).trans (ih _)

/-- As the engine becomes FREE and makes its grant decision, no record changes (R91). -/
theorem State.becomeFree_sameTables (s : State) : SameTables s s.becomeFree := State.freeLoop_sameTables 6 s

theorem State.requestEngine_sameTables (s : State) (r : Requester) : SameTables s (s.requestEngine r) := by
  unfold State.requestEngine
  have h : SameTables s (s.modEngine fun e => { e with waiting := e.waiting.set r true }) := by constructor <;> simp
  dsimp only
  split
  · exact h
  · split
    · exact h.trans (State.grantTo_sameTables _ _)
    · exact (h.trans (State.grantTo_sameTables _ _)).trans (State.becomeFree_sameTables _)

/-- A burst's yield set moves the engine alone: the set of the requester is every other that waits, and no other set, no
waiting requester and nothing served changes (R93). -/
theorem State.recordYield_engine (s : State) (r : Requester) :
    (s.recordYield r).engine = { s.engine with yields := s.engine.yields.set r (s.engine.waiting.set r false) } := rfl

theorem State.recordYield_sameTables (s : State) (r : Requester) : SameTables s (s.recordYield r) := by
  unfold State.recordYield
  constructor <;> simp

theorem State.boundary_sameTables (s : State) (r : Requester) : SameTables s (s.boundary r) := by
  unfold State.boundary
  refine ((State.recordYield_sameTables s r).trans ?_).trans (State.becomeFree_sameTables _)
  constructor <;> simp

/-- Whatever follows a commit at the engine changes no record (R91, R93). -/
theorem State.conclude_sameTables (s : State) (r : Requester) (goesOn : Bool) : SameTables s (s.conclude r goesOn) := by
  unfold State.conclude
  split
  · exact State.boundary_sameTables s r
  · exact State.becomeFree_sameTables s

end Sys2Proof.Machine
end

