-- ==== Sys2Proof/WellFormed.lean ====
section
/-! DEFINITION. Which commands are well formed: a frame's payload is at most 1,024 bytes (R159), an UNKNOWN_REQUEST
carries a code that names no request (R161), and a stop-bit error is a UART port's (R159). -/

namespace Sys2Proof

open Machine

/-- A payload a good frame can carry (R159). -/
def payloadWf (payload : List Byte) : Bool := payload.length ≤ maxPayload

/-- The well-formed commands. -/
def Instr.wf : Instr → Bool
  | .wandTransition _ _ _ => true
  | .quietPeriod _ => true
  | .scanEnd _ => true
  | .wandRestsOnDark _ => true
  | .presenceChange _ _ => true
  | .holdTimerExpiry _ => true
  | .idleTimerExpiry _ => true
  | .gatherTimerExpiry _ => true
  | .scanTake _ _ payload => payloadWf payload
  | .checkout _ _ payload => payloadWf payload
  | .returnItem _ _ payload => payloadWf payload
  | .renew _ _ payload => payloadWf payload
  | .borrowerQuery _ _ payload => payloadWf payload
  | .loansList _ _ payload => payloadWf payload
  | .slipCut _ _ payload => payloadWf payload
  | .printerResume _ _ payload => payloadWf payload
  | .unbind _ _ payload => payloadWf payload
  | .noticeTake _ _ payload => payloadWf payload
  | .status _ _ payload => payloadWf payload
  | .finePay _ _ payload => payloadWf payload
  | .borrowerAdd _ _ payload => payloadWf payload
  | .itemFlagSet _ _ payload => payloadWf payload
  | .policyLoad _ _ payload => payloadWf payload
  | .dateSet _ _ payload => payloadWf payload
  | .deskOpen _ _ payload => payloadWf payload
  | .deskClose _ _ payload => payloadWf payload
  | .nightEnter _ _ payload => payloadWf payload
  | .nightLeave _ _ payload => payloadWf payload
  | .journalArm _ _ payload => payloadWf payload
  | .journalFetch _ _ payload => payloadWf payload
  | .journalRelease _ _ payload => payloadWf payload
  | .journalRewind _ _ payload => payloadWf payload
  | .borrowerLoad _ _ payload => payloadWf payload
  | .itemFlagsLoad _ _ payload => payloadWf payload
  | .markAll _ _ payload => payloadWf payload
  | .purgeMarked _ _ payload => payloadWf payload
  | .tableClear _ _ payload => payloadWf payload
  | .tableRebuild _ _ payload => payloadWf payload
  | .loanLoad _ _ payload => payloadWf payload
  | .unknownRequest _ _ code payload => payloadWf payload && (ReqCode.ofByte code).isNone
  | .badFrame _ _ => true
  | .interByteTimeout _ _ => true
  | .stopBitError p _ => p != .console
  | .consoleSelect _ => true
  | .outputFrameSent _ => true
  | .portBreak _ => true
  | .checkoutCommit => true
  | .returnCommit => true
  | .renewCommit => true
  | .finePayCommit => true
  | .borrowerAddCommit => true
  | .itemFlagSetCommit => true
  | .borrowerQueryEnd => true
  | .loansListEnd => true
  | .policyLoadCommit => true
  | .borrowerLoadStep => true
  | .itemFlagsLoadStep => true
  | .markAllStep => true
  | .purgeMarkedStep => true
  | .tableClearStep => true
  | .tableRebuildStep => true
  | .loanLoadStep => true
  | .sweepBatch => true
  | .scrubStep => true
  | .rollover => true
  | .openingEvent => true
  | .closingEvent => true
  | .drainTimerExpiry => true
  | .busyRelease _ => true
  | .waitTimerExpiry _ => true
  | .gapEnd _ => true
  | .paperOutAssert _ => true
  | .paperOutRelease _ => true
  | .supplyFail _ => true
  | .resetAssert _ => true
  | .batteryBelowHold => true
  | .supplyValid => true
  | .resetRelease => true
  | .startupIntact _ => true
  | .startupLost _ => true
  | .batterySample _ => true

end Sys2Proof
end

