-- ==== Sys2Proof/Laws/PerInstr.lean ====
section
/-! SUPPORT. A statement about each command as syntax: which commands are the arrivals of request frames, and when such a
command is well formed (R159, R161, R162). -/

namespace Sys2Proof.Laws

open Sys2Proof.Machine

/-- Every request's code byte names that request (R162). -/
theorem ofByte_byte (code : ReqCode) : ReqCode.ofByte code.byte = some code := by cases code <;> decide

/-- A request command is well formed exactly where its payload is one a good frame can carry (R159). -/
theorem requestCommand_wf (code : ReqCode) (p : Port) (tag : Byte) (payload : List Byte) :
    (requestCommand code p tag payload).wf = decide (payload.length ≤ 1024) := by
  cases code <;> rfl

/-- An UNKNOWN_REQUEST whose code names a request is not well formed: that frame is the request's own arrival (R161). -/
theorem unknownRequest_wf (code : ReqCode) (p : Port) (tag : Byte) (payload : List Byte) :
    (Instr.unknownRequest p tag code.byte payload).wf = false := by
  cases code <;> simp [Instr.wf, ofByte_byte]

/-- What is said of a command: where it is the arrival of a request's frame, its code byte names that request, and it is
well formed exactly for a payload of at most 1,024 bytes. -/
def RequestFrame.Statement (i : Instr) : Prop :=
  ∀ code p tag payload, i = requestCommand code p tag payload →
    ReqCode.ofByte code.byte = some code ∧ (i.wf = true ↔ payload.length ≤ 1024)

/-- The statement holds of every command. -/
theorem requestFrame_statement (i : Instr) : RequestFrame.Statement i := by
  rintro code p tag payload rfl
  exact ⟨ofByte_byte code, by rw [requestCommand_wf, decide_eq_true_iff]⟩

theorem RequestFrame.wandTransition (d : Desk) (level : LineLevel) (stamp : Stamp) :
    RequestFrame.Statement (.wandTransition d level stamp) := requestFrame_statement _
theorem RequestFrame.quietPeriod (d : Desk) : RequestFrame.Statement (.quietPeriod d) := requestFrame_statement _
theorem RequestFrame.scanEnd (d : Desk) : RequestFrame.Statement (.scanEnd d) := requestFrame_statement _
theorem RequestFrame.wandRestsOnDark (d : Desk) :
    RequestFrame.Statement (.wandRestsOnDark d) := requestFrame_statement _
theorem RequestFrame.presenceChange (d : Desk) (input : Presence) :
    RequestFrame.Statement (.presenceChange d input) := requestFrame_statement _
theorem RequestFrame.holdTimerExpiry (d : Desk) :
    RequestFrame.Statement (.holdTimerExpiry d) := requestFrame_statement _
theorem RequestFrame.idleTimerExpiry (d : Desk) :
    RequestFrame.Statement (.idleTimerExpiry d) := requestFrame_statement _
theorem RequestFrame.gatherTimerExpiry (d : Desk) :
    RequestFrame.Statement (.gatherTimerExpiry d) := requestFrame_statement _
theorem RequestFrame.scanTake (p : Port) (tag : Byte) (payload : List Byte) :
    RequestFrame.Statement (.scanTake p tag payload) := requestFrame_statement _
theorem RequestFrame.checkout (p : Port) (tag : Byte) (payload : List Byte) :
    RequestFrame.Statement (.checkout p tag payload) := requestFrame_statement _
theorem RequestFrame.returnItem (p : Port) (tag : Byte) (payload : List Byte) :
    RequestFrame.Statement (.returnItem p tag payload) := requestFrame_statement _
theorem RequestFrame.renew (p : Port) (tag : Byte) (payload : List Byte) :
    RequestFrame.Statement (.renew p tag payload) := requestFrame_statement _
theorem RequestFrame.borrowerQuery (p : Port) (tag : Byte) (payload : List Byte) :
    RequestFrame.Statement (.borrowerQuery p tag payload) := requestFrame_statement _
theorem RequestFrame.loansList (p : Port) (tag : Byte) (payload : List Byte) :
    RequestFrame.Statement (.loansList p tag payload) := requestFrame_statement _
theorem RequestFrame.slipCut (p : Port) (tag : Byte) (payload : List Byte) :
    RequestFrame.Statement (.slipCut p tag payload) := requestFrame_statement _
theorem RequestFrame.printerResume (p : Port) (tag : Byte) (payload : List Byte) :
    RequestFrame.Statement (.printerResume p tag payload) := requestFrame_statement _
theorem RequestFrame.unbind (p : Port) (tag : Byte) (payload : List Byte) :
    RequestFrame.Statement (.unbind p tag payload) := requestFrame_statement _
theorem RequestFrame.noticeTake (p : Port) (tag : Byte) (payload : List Byte) :
    RequestFrame.Statement (.noticeTake p tag payload) := requestFrame_statement _
theorem RequestFrame.status (p : Port) (tag : Byte) (payload : List Byte) :
    RequestFrame.Statement (.status p tag payload) := requestFrame_statement _
theorem RequestFrame.finePay (p : Port) (tag : Byte) (payload : List Byte) :
    RequestFrame.Statement (.finePay p tag payload) := requestFrame_statement _
theorem RequestFrame.borrowerAdd (p : Port) (tag : Byte) (payload : List Byte) :
    RequestFrame.Statement (.borrowerAdd p tag payload) := requestFrame_statement _
theorem RequestFrame.itemFlagSet (p : Port) (tag : Byte) (payload : List Byte) :
    RequestFrame.Statement (.itemFlagSet p tag payload) := requestFrame_statement _
theorem RequestFrame.policyLoad (p : Port) (tag : Byte) (payload : List Byte) :
    RequestFrame.Statement (.policyLoad p tag payload) := requestFrame_statement _
theorem RequestFrame.dateSet (p : Port) (tag : Byte) (payload : List Byte) :
    RequestFrame.Statement (.dateSet p tag payload) := requestFrame_statement _
theorem RequestFrame.deskOpen (p : Port) (tag : Byte) (payload : List Byte) :
    RequestFrame.Statement (.deskOpen p tag payload) := requestFrame_statement _
theorem RequestFrame.deskClose (p : Port) (tag : Byte) (payload : List Byte) :
    RequestFrame.Statement (.deskClose p tag payload) := requestFrame_statement _
theorem RequestFrame.nightEnter (p : Port) (tag : Byte) (payload : List Byte) :
    RequestFrame.Statement (.nightEnter p tag payload) := requestFrame_statement _
theorem RequestFrame.nightLeave (p : Port) (tag : Byte) (payload : List Byte) :
    RequestFrame.Statement (.nightLeave p tag payload) := requestFrame_statement _
theorem RequestFrame.journalArm (p : Port) (tag : Byte) (payload : List Byte) :
    RequestFrame.Statement (.journalArm p tag payload) := requestFrame_statement _
theorem RequestFrame.journalFetch (p : Port) (tag : Byte) (payload : List Byte) :
    RequestFrame.Statement (.journalFetch p tag payload) := requestFrame_statement _
theorem RequestFrame.journalRelease (p : Port) (tag : Byte) (payload : List Byte) :
    RequestFrame.Statement (.journalRelease p tag payload) := requestFrame_statement _
theorem RequestFrame.journalRewind (p : Port) (tag : Byte) (payload : List Byte) :
    RequestFrame.Statement (.journalRewind p tag payload) := requestFrame_statement _
theorem RequestFrame.borrowerLoad (p : Port) (tag : Byte) (payload : List Byte) :
    RequestFrame.Statement (.borrowerLoad p tag payload) := requestFrame_statement _
theorem RequestFrame.itemFlagsLoad (p : Port) (tag : Byte) (payload : List Byte) :
    RequestFrame.Statement (.itemFlagsLoad p tag payload) := requestFrame_statement _
theorem RequestFrame.markAll (p : Port) (tag : Byte) (payload : List Byte) :
    RequestFrame.Statement (.markAll p tag payload) := requestFrame_statement _
theorem RequestFrame.purgeMarked (p : Port) (tag : Byte) (payload : List Byte) :
    RequestFrame.Statement (.purgeMarked p tag payload) := requestFrame_statement _
theorem RequestFrame.tableClear (p : Port) (tag : Byte) (payload : List Byte) :
    RequestFrame.Statement (.tableClear p tag payload) := requestFrame_statement _
theorem RequestFrame.tableRebuild (p : Port) (tag : Byte) (payload : List Byte) :
    RequestFrame.Statement (.tableRebuild p tag payload) := requestFrame_statement _
theorem RequestFrame.loanLoad (p : Port) (tag : Byte) (payload : List Byte) :
    RequestFrame.Statement (.loanLoad p tag payload) := requestFrame_statement _
theorem RequestFrame.unknownRequest (p : Port) (tag : Byte) (code : Byte) (payload : List Byte) :
    RequestFrame.Statement (.unknownRequest p tag code payload) := requestFrame_statement _
theorem RequestFrame.badFrame (p : Port) (received : List Byte) :
    RequestFrame.Statement (.badFrame p received) := requestFrame_statement _
theorem RequestFrame.interByteTimeout (p : Port) (received : List Byte) :
    RequestFrame.Statement (.interByteTimeout p received) := requestFrame_statement _
theorem RequestFrame.stopBitError (p : Port) (received : List Byte) :
    RequestFrame.Statement (.stopBitError p received) := requestFrame_statement _
theorem RequestFrame.consoleSelect (clockedIn : List Byte) :
    RequestFrame.Statement (.consoleSelect clockedIn) := requestFrame_statement _
theorem RequestFrame.outputFrameSent (p : Port) :
    RequestFrame.Statement (.outputFrameSent p) := requestFrame_statement _
theorem RequestFrame.portBreak (p : Port) : RequestFrame.Statement (.portBreak p) := requestFrame_statement _
theorem RequestFrame.checkoutCommit : RequestFrame.Statement .checkoutCommit := requestFrame_statement _
theorem RequestFrame.returnCommit : RequestFrame.Statement .returnCommit := requestFrame_statement _
theorem RequestFrame.renewCommit : RequestFrame.Statement .renewCommit := requestFrame_statement _
theorem RequestFrame.finePayCommit : RequestFrame.Statement .finePayCommit := requestFrame_statement _
theorem RequestFrame.borrowerAddCommit : RequestFrame.Statement .borrowerAddCommit := requestFrame_statement _
theorem RequestFrame.itemFlagSetCommit : RequestFrame.Statement .itemFlagSetCommit := requestFrame_statement _
theorem RequestFrame.borrowerQueryEnd : RequestFrame.Statement .borrowerQueryEnd := requestFrame_statement _
theorem RequestFrame.loansListEnd : RequestFrame.Statement .loansListEnd := requestFrame_statement _
theorem RequestFrame.policyLoadCommit : RequestFrame.Statement .policyLoadCommit := requestFrame_statement _
theorem RequestFrame.borrowerLoadStep : RequestFrame.Statement .borrowerLoadStep := requestFrame_statement _
theorem RequestFrame.itemFlagsLoadStep : RequestFrame.Statement .itemFlagsLoadStep := requestFrame_statement _
theorem RequestFrame.markAllStep : RequestFrame.Statement .markAllStep := requestFrame_statement _
theorem RequestFrame.purgeMarkedStep : RequestFrame.Statement .purgeMarkedStep := requestFrame_statement _
theorem RequestFrame.tableClearStep : RequestFrame.Statement .tableClearStep := requestFrame_statement _
theorem RequestFrame.tableRebuildStep : RequestFrame.Statement .tableRebuildStep := requestFrame_statement _
theorem RequestFrame.loanLoadStep : RequestFrame.Statement .loanLoadStep := requestFrame_statement _
theorem RequestFrame.sweepBatch : RequestFrame.Statement .sweepBatch := requestFrame_statement _
theorem RequestFrame.scrubStep : RequestFrame.Statement .scrubStep := requestFrame_statement _
theorem RequestFrame.rollover : RequestFrame.Statement .rollover := requestFrame_statement _
theorem RequestFrame.openingEvent : RequestFrame.Statement .openingEvent := requestFrame_statement _
theorem RequestFrame.closingEvent : RequestFrame.Statement .closingEvent := requestFrame_statement _
theorem RequestFrame.drainTimerExpiry : RequestFrame.Statement .drainTimerExpiry := requestFrame_statement _
theorem RequestFrame.busyRelease (d : Desk) : RequestFrame.Statement (.busyRelease d) := requestFrame_statement _
theorem RequestFrame.waitTimerExpiry (d : Desk) :
    RequestFrame.Statement (.waitTimerExpiry d) := requestFrame_statement _
theorem RequestFrame.gapEnd (d : Desk) : RequestFrame.Statement (.gapEnd d) := requestFrame_statement _
theorem RequestFrame.paperOutAssert (d : Desk) :
    RequestFrame.Statement (.paperOutAssert d) := requestFrame_statement _
theorem RequestFrame.paperOutRelease (d : Desk) :
    RequestFrame.Statement (.paperOutRelease d) := requestFrame_statement _
theorem RequestFrame.supplyFail (commitBegun : Bool) :
    RequestFrame.Statement (.supplyFail commitBegun) := requestFrame_statement _
theorem RequestFrame.resetAssert (commitBegun : Bool) :
    RequestFrame.Statement (.resetAssert commitBegun) := requestFrame_statement _
theorem RequestFrame.batteryBelowHold : RequestFrame.Statement .batteryBelowHold := requestFrame_statement _
theorem RequestFrame.supplyValid : RequestFrame.Statement .supplyValid := requestFrame_statement _
theorem RequestFrame.resetRelease : RequestFrame.Statement .resetRelease := requestFrame_statement _
theorem RequestFrame.startupIntact (batteryBelow : Bool) :
    RequestFrame.Statement (.startupIntact batteryBelow) := requestFrame_statement _
theorem RequestFrame.startupLost (batteryBelow : Bool) :
    RequestFrame.Statement (.startupLost batteryBelow) := requestFrame_statement _
theorem RequestFrame.batterySample (batteryBelow : Bool) :
    RequestFrame.Statement (.batterySample batteryBelow) := requestFrame_statement _

end Sys2Proof.Laws
end

