-- ==== Sys2Proof/Laws/Queues.lean ====
section
/-! SUPPORT. The ports' queues (R160, R161, R164), the journal's append (R122, R123) and the loan lists (R39): what each
operation leaves, and that it keeps the laws; the receiver and the two parts of a Console transfer (R159, R160). -/

namespace Sys2Proof.Machine

/-! ## Notices, answers and replies -/

/-- A notice placed in a queue keeps the port lawful (R164). -/
theorem PortState.Lawful.place {q : PortState} (h : q.Lawful) (n : Notice) : (q.place n).Lawful := by
  unfold PortState.place
  split
  case isTrue lt =>
    refine ⟨?_, h.answers, h.replies, h.flight⟩
    simp only [noticeCapacity] at lt
    simp only [List.length_append, List.length_singleton]; omega
  case isFalse => exact ⟨h.notices, h.answers, h.replies, h.flight⟩

/-- A placed notice stands last, or the queue was full and its sticky overflow flag is set (R164). -/
theorem PortState.place_cases (q : PortState) (n : Notice) :
    (q.notices.length < 8 ∧ q.place n = { q with notices := q.notices ++ [n] }) ∨
      (8 ≤ q.notices.length ∧ q.place n = { q with overflow := true }) := by
  unfold PortState.place noticeCapacity
  split
  case isTrue h => exact .inl ⟨h, rfl⟩
  case isFalse h => exact .inr ⟨by omega, rfl⟩

/-- A reply made ready (R161, R163): nothing for a port with nothing in flight; after a break the request leaves flight;
otherwise the reply joins the output queue with the flight's tag and code. -/
theorem State.reply_cases (s : State) (p : Port) (code : ReplyCode) (flags : ReplyFlags) (results : List Field) :
    ((s.port p).inFlight = none ∧ s.reply p code flags results = s.modPort p id) ∨
      ∃ fl, (s.port p).inFlight = some fl ∧
        ((fl.discard = true ∧
            s.reply p code flags results = s.modPort p fun q => { q with inFlight := none }) ∨
          (fl.discard = false ∧
            s.reply p code flags results = s.modPort p fun q =>
              { q with
                inFlight := some { fl with op := none }
                outQ := q.outQ ++
                  [{ tag := fl.tag, code, request := fl.code.byte, flags, results := results ++ labelField fl.label,
                     isReply := true }] })) := by
  unfold State.reply
  cases p <;> simp only [State.port, State.modPort]
  case console =>
    cases h : s.consolePort.inFlight with
    | none => exact .inl ⟨rfl, rfl⟩
    | some fl =>
      refine .inr ⟨fl, rfl, ?_⟩
      by_cases hd : fl.discard = true
      · exact .inl ⟨hd, by simp only [if_pos hd]⟩
      · exact .inr ⟨by simpa using hd, by simp only [if_neg hd]⟩
  case kiosk =>
    cases h : s.kioskPort.inFlight with
    | none => exact .inl ⟨rfl, rfl⟩
    | some fl =>
      refine .inr ⟨fl, rfl, ?_⟩
      by_cases hd : fl.discard = true
      · exact .inl ⟨hd, by simp only [if_pos hd]⟩
      · exact .inr ⟨by simpa using hd, by simp only [if_neg hd]⟩
  case uplink =>
    cases h : s.uplinkPort.inFlight with
    | none => exact .inl ⟨rfl, rfl⟩
    | some fl =>
      refine .inr ⟨fl, rfl, ?_⟩
      by_cases hd : fl.discard = true
      · exact .inl ⟨hd, by simp only [if_pos hd]⟩
      · exact .inr ⟨by simpa using hd, by simp only [if_neg hd]⟩

/-! ## The journal -/

/-- An append raises the occupancy by one, where it lies below the capacity (R122, R123). -/
theorem Journal.occupancy_append (j : Journal) (d : EntryDraft) (h : j.occupancy < 3072) :
    (j.append d).occupancy = j.occupancy + 1 := by
  simp only [Journal.occupancy, Journal.append] at h ⊢; bv_omega

/-- An append moves neither the head nor the cursor, and leaves the window and the waiting dates. -/
@[simp] theorem Journal.append_fields (j : Journal) (d : EntryDraft) :
    (j.append d).head = j.head ∧ (j.append d).cursor = j.cursor ∧ (j.append d).tail = j.tail + 1 ∧
      (j.append d).window = j.window ∧ (j.append d).waitingDates = j.waitingDates :=
  ⟨rfl, rfl, rfl, rfl, rfl⟩

/-- An append below the capacity keeps the journal lawful (R123). -/
theorem Journal.Lawful.append {j : Journal} (h : j.Lawful) (d : EntryDraft) (room : j.occupancy < 3072) :
    (j.append d).Lawful := by
  have occ := Journal.occupancy_append j d room
  refine ⟨?_, by omega, ?_, fun i hi => ?_, h.waiting⟩
  · rw [occ, ← h.held]; simp [Journal.append]
  · have := h.cursor
    have same : (j.append d).delivered = j.delivered := rfl
    omega
  · have len : (j.append d).entries.length = j.entries.length + 1 := by simp [Journal.append]
    rcases Nat.lt_or_ge i j.entries.length with lt | ge
    · have := h.sequences i lt
      simpa [Journal.append, List.getElem_append_left lt] using this
    · have eq : i = j.entries.length := by omega
      subst eq
      have tail : j.tail = j.head + BitVec.ofNat 32 j.entries.length := by
        rw [h.held]; simp only [Journal.occupancy] at room ⊢; bv_omega
      simpa [Journal.append] using tail

/-- Several appends with room for all of them (R123). -/
theorem Journal.Lawful.after {j : Journal} (h : j.Lawful) (ds : List EntryDraft)
    (room : j.occupancy + ds.length ≤ 3072) :
    (j.after ds).Lawful ∧ (j.after ds).occupancy = j.occupancy + ds.length := by
  induction ds generalizing j with
  | nil => exact ⟨h, rfl⟩
  | cons d ds ih =>
    simp only [List.length_cons] at room
    have occ := Journal.occupancy_append j d (by omega)
    obtain ⟨a, b⟩ := ih (h.append d (by omega)) (by omega)
    refine ⟨a, ?_⟩
    have : j.after (d :: ds) = (j.append d).after ds := rfl
    rw [this, b, occ, List.length_cons]; omega

/-! ## The loan lists -/

/-- The items a list of loan lists gives a borrower number. -/
def listOf (b : Nat) (ls : List (Nat × List Nat)) : List Nat :=
  match ls.find? fun l => l.1 == b with
  | some l => l.2
  | none => []

theorem State.loanList_eq (s : State) (b : Nat) : s.loanList b = listOf b s.loanLists := rfl

/-- Every owner in a list put in order after a change is the one changed or stood there before. -/
theorem mem_setLoanList {b : Nat} {items : List Nat} {ls : List (Nat × List Nat)} {l : Nat × List Nat}
    (h : l ∈ setLoanList b items ls) : l ∈ ls ∨ (l = (b, items) ∧ items ≠ []) := by
  induction ls with
  | nil =>
    simp only [setLoanList] at h
    split at h
    · simp at h
    · rename_i ne; simp at h; exact .inr ⟨h, by simpa using ne⟩
  | cons x xs ih =>
    simp only [setLoanList] at h
    split at h
    · split at h
      · exact .inl (by simp [h])
      · rename_i ne
        rcases List.mem_cons.mp h with rfl | h
        · exact .inr ⟨rfl, by simpa using ne⟩
        · exact .inl (by simp [h])
    · split at h
      · split at h
        · exact .inl h
        · rename_i ne
          rcases List.mem_cons.mp h with rfl | h
          · exact .inr ⟨rfl, by simpa using ne⟩
          · exact .inl h
      · rcases List.mem_cons.mp h with rfl | h
        · exact .inl (by simp)
        · rcases ih h with h | h
          · exact .inl (by simp [h])
          · exact .inr h

/-- A borrower number given a list has it, and every other number keeps its own (R39). -/
theorem listOf_setLoanList {ls : List (Nat × List Nat)} (sorted : ls.Pairwise fun a b => a.1 < b.1) (b c : Nat)
    (items : List Nat) : listOf c (setLoanList b items ls) = if c = b then items else listOf c ls := by
  induction ls with
  | nil =>
    by_cases hi : items = []
    · simp [setLoanList, hi, listOf]
    · by_cases hc : c = b
      · simp [setLoanList, hi, listOf, hc]
      · have : (b == c) = false := by simpa using Ne.symm hc
        simp [setLoanList, hi, listOf, hc, this]
  | cons x xs ih =>
    obtain ⟨hx, hxs⟩ := List.pairwise_cons.mp sorted
    have ih := ih hxs
    simp only [setLoanList]
    split
    case isTrue eq =>
      have absent : c = b → xs.find? (fun l => l.1 == c) = none := fun h => by
        simp only [List.find?_eq_none, beq_iff_eq]; intro l hl; have := hx l hl; omega
      by_cases hc : c = b
      · by_cases hi : items = []
        · have := absent hc
          rw [if_pos hc]; simp only [hi, List.isEmpty_nil, if_true, listOf, this]
        · simp [hi, hc, listOf]
      · have : (b == c) = false := by simpa using Ne.symm hc
        have hx' : (x.1 == c) = false := by simpa [eq] using Ne.symm hc
        by_cases hi : items = [] <;> simp [hi, hc, listOf, this, hx']
    case isFalse ne =>
      split
      case isTrue lt =>
        have absent : c = b → (x :: xs).find? (fun l => l.1 == c) = none := fun h => by
          simp only [List.find?_eq_none, beq_iff_eq]
          intro l hl
          rcases List.mem_cons.mp hl with rfl | hl
          · omega
          · have := hx l hl; omega
        by_cases hc : c = b
        · by_cases hi : items = []
          · have := absent hc
            simp only [hi, List.isEmpty_nil, if_true, hc, listOf]; rw [← hc, this]
          · simp [hi, hc, listOf]
        · have : (b == c) = false := by simpa using Ne.symm hc
          by_cases hi : items = []
          · simp [hi, hc]
          · simp [hi, hc, listOf, List.find?_cons, this]
      case isFalse nlt =>
        by_cases hxc : x.1 = c
        · have : c ≠ b := fun h => ne (hxc.trans h)
          simp [listOf, hxc, this]
        · have hx' : (x.1 == c) = false := by simpa using hxc
          have ih' := ih
          simp only [listOf] at ih' ⊢
          simp only [List.find?_cons, hx', ih']

/-- The owners stay in ascending order (R39). -/
theorem setLoanList_sorted {ls : List (Nat × List Nat)} (sorted : ls.Pairwise fun a b => a.1 < b.1) (b : Nat)
    (items : List Nat) : (setLoanList b items ls).Pairwise fun a b => a.1 < b.1 := by
  induction ls with
  | nil => simp only [setLoanList]; split <;> simp
  | cons x xs ih =>
    obtain ⟨hx, hxs⟩ := List.pairwise_cons.mp sorted
    simp only [setLoanList]
    split
    case isTrue eq =>
      split
      · exact hxs
      · exact List.pairwise_cons.mpr ⟨fun l hl => by have := hx l hl; simp only; omega, hxs⟩
    case isFalse ne =>
      split
      case isTrue lt =>
        split
        · exact sorted
        · refine List.pairwise_cons.mpr ⟨fun l hl => ?_, sorted⟩
          rcases List.mem_cons.mp hl with rfl | hl
          · exact lt
          · have := hx l hl; simp only; omega
      case isFalse nlt =>
        refine List.pairwise_cons.mpr ⟨fun l hl => ?_, ih hxs⟩
        rcases mem_setLoanList hl with hl | ⟨rfl, _⟩
        · exact hx l hl
        · simp only; omega

/-- The lists given stay nonempty (R39). -/
theorem setLoanList_filled {ls : List (Nat × List Nat)} (filled : ∀ l ∈ ls, l.2 ≠ []) (b : Nat) (items : List Nat) :
    ∀ l ∈ setLoanList b items ls, l.2 ≠ [] := fun l hl => by
  rcases mem_setLoanList hl with hl | ⟨rfl, h⟩
  · exact filled l hl
  · exact h

/-- A loan that enters a list is the only new member (R39). -/
theorem mem_enterList {dueOf : Nat → Nat} {item due x : Nat} {l : List Nat} :
    x ∈ enterList dueOf item due l ↔ x = item ∨ x ∈ l := by
  induction l with
  | nil => simp [enterList]
  | cons y ys ih =>
    simp only [enterList]; split
    · simp
    · simp [ih]; tauto

/-- A loan not yet in a list enters it once (R39). -/
theorem enterList_nodup {dueOf : Nat → Nat} {item due : Nat} {l : List Nat} (h : l.Nodup) (new : item ∉ l) :
    (enterList dueOf item due l).Nodup := by
  induction l with
  | nil => simp [enterList]
  | cons y ys ih =>
    obtain ⟨hy, hys⟩ := List.nodup_cons.mp h
    simp only [enterList]; split
    · exact List.nodup_cons.mpr ⟨new, h⟩
    · refine List.nodup_cons.mpr ⟨fun hm => ?_, ih hys fun hm => new (by simp [hm])⟩
      rcases mem_enterList.mp hm with rfl | hm
      · exact new (by simp)
      · exact hy hm

/-- A loan entering an ordered list at its own due day leaves it ordered (R39). -/
theorem enterList_ordered {dueOf : Nat → Nat} {item : Nat} {l : List Nat}
    (h : l.Pairwise fun i j => dueOf i ≤ dueOf j) :
    (enterList dueOf item (dueOf item) l).Pairwise fun i j => dueOf i ≤ dueOf j := by
  induction l with
  | nil => simp [enterList]
  | cons y ys ih =>
    obtain ⟨hy, hys⟩ := List.pairwise_cons.mp h
    simp only [enterList]; split
    case isTrue lt =>
      refine List.pairwise_cons.mpr ⟨fun z hz => ?_, h⟩
      rcases List.mem_cons.mp hz with rfl | hz
      · omega
      · have := hy z hz; omega
    case isFalse nlt =>
      refine List.pairwise_cons.mpr ⟨fun z hz => ?_, ih hys⟩
      rcases mem_enterList.mp hz with rfl | hz
      · omega
      · exact hy z hz

/-! ## The receiver and a Console transfer -/

/-- The receiver over bytes in two pieces: the second is read from where the first left it (R159). -/
theorem Receiver.run_append (r : Receiver) (xs ys : List Byte) :
    r.run (xs ++ ys) = (((r.run xs).1.run ys).1, (r.run xs).2 ++ ((r.run xs).1.run ys).2) := by
  induction xs generalizing r with
  | nil => rfl
  | cons b bs ih => simp [Receiver.run, ih]

/-- Bytes in which the receiver finds nothing move the receiver alone (R159). -/
theorem State.takeBytes_nothing {s : State} {p : Port} {received : List Byte} {rx : Receiver}
    (h : (s.port p).rx.run received = (rx, [])) :
    s.takeBytes p received = s.modPort p fun q => { q with rx := rx } := by
  simp [State.takeBytes, h]

/-- Bytes in which the receiver finds one frame: it is judged, and the receiver stands after the bytes (R159, R161). -/
theorem State.takeBytes_one {s : State} {p : Port} {received : List Byte} {rx : Receiver} {e : RxEvent}
    (h : (s.port p).rx.run received = (rx, [e])) :
    s.takeBytes p received = (s.judge p e).modPort p fun q => { q with rx := rx } := by
  simp [State.takeBytes, h]

/-- A transfer over before the head frame's last byte: all it brings in is judged with the frame in the queue (R160). -/
theorem onConsoleSelect_short {clockedIn : List Byte} {s : State}
    (h : clockedIn.length ≤ s.consolePort.unsent.length) :
    onConsoleSelect clockedIn s =
      (((s.modPort .console fun q => { q with transfer := q.clockedOut clockedIn.length }).takeBytes .console
        clockedIn).modPort .console (·.transferOut clockedIn.length)).takeBytes .console [] := by
  simp [onConsoleSelect, List.take_of_length_le h, List.drop_of_length_le h]

/-- A transfer as long as the head frame and the attention byte, cut where the frame leaves (R160). -/
theorem onConsoleSelect_append {before after : List Byte} {s : State}
    (h : before.length = s.consolePort.unsent.length) :
    onConsoleSelect (before ++ after) s =
      (((s.modPort .console fun q => { q with transfer := q.clockedOut (before ++ after).length }).takeBytes .console
        before).modPort .console (·.transferOut (before ++ after).length)).takeBytes .console after := by
  simp [onConsoleSelect, ← h]

end Sys2Proof.Machine
end

