-- ==== Sys2Proof/Laws/StartUp.lean ====
section
/-! SUPPORT. What one comparison of a start-up can do (R153): a table's health and the start-up's own progress, and nothing
else. -/

namespace Sys2Proof.Machine

@[simp] theorem State.modStartUp_control (s : State) (f : StartUp → StartUp) :
    (s.modStartUp f).control = { s.control with startUp := f s.control.startUp } := rfl

@[simp] theorem State.modStartUp_health (s : State) (f : StartUp → StartUp) (t : TableId) :
    (s.modStartUp f).health t = s.health t := by cases t <;> rfl

@[simp] theorem State.modStartUp_agrees (s : State) (f : StartUp → StartUp) (t : TableId) :
    (s.modStartUp f).agrees t = s.agrees t := by cases t <;> rfl

@[simp] theorem State.setHealth_agrees (s : State) (t u : TableId) (h : Health) :
    (s.setHealth t h).agrees u = s.agrees u := by cases t <;> cases u <;> rfl

theorem State.setHealth_health (s : State) (t u : TableId) (h : Health) :
    (s.setHealth t h).health u = if u = t then h else s.health u := by cases t <;> cases u <;> rfl

theorem State.setHealth_records (s : State) (t : TableId) (h : Health) : SameRecords s (s.setHealth t h) := by
  cases t <;> exact ⟨⟨rfl, rfl, rfl⟩, ⟨rfl, rfl⟩, ⟨rfl, rfl⟩, rfl, ⟨rfl, rfl⟩⟩

/-- A comparison changes no sum and no record, so that it changes the outcome of no other. -/
@[simp] theorem State.compare_agrees (s : State) (t u : TableId) : (s.compare t).agrees u = s.agrees u := by
  unfold State.compare; split <;> simp

/-- The health of each table after a comparison. -/
theorem State.compare_health (s : State) (t u : TableId) :
    (s.compare t).health u = if u = t ∧ s.agrees t = false then .suspect else s.health u := by
  unfold State.compare
  split
  case isTrue h => simp [State.setHealth_health, h.1]
  case isFalse h =>
    simp only [State.modStartUp_health]
    split
    case isTrue k =>
      obtain ⟨rfl, k⟩ := k
      cases e : s.health u <;> simp_all
    case isFalse => rfl

/-- The progress of the start-up after a comparison. -/
theorem State.compare_startUp (s : State) (t : TableId) :
    (s.compare t).control.startUp =
      { compared := s.control.startUp.compared + 1
        found := s.control.startUp.found ++ if s.agrees t = false ∧ s.health t = .sound then [t] else [] } := by
  unfold State.compare
  split <;> cases t <;> simp [State.setHealth]

/-- A comparison changes no record. -/
theorem State.compare_records (s : State) (t : TableId) : SameRecords s (s.compare t) := by
  unfold State.compare
  split
  · cases t <;> exact ⟨⟨rfl, rfl, rfl⟩, ⟨rfl, rfl⟩, ⟨rfl, rfl⟩, rfl, ⟨rfl, rfl⟩⟩
  · exact ⟨⟨rfl, rfl, rfl⟩, ⟨rfl, rfl⟩, ⟨rfl, rfl⟩, rfl, ⟨rfl, rfl⟩⟩

end Sys2Proof.Machine
end

