-- ==== Sys2Proof/Laws/Tables.lean ====
section
/-! SUPPORT. The keyed tables (R30, R31, R43, R44): what an insertion, an update and a removal do to the record under a
key, and that each keeps a table lawful and a map. -/

namespace Sys2Proof.Machine

variable {ρ : Type}

/-! ## Sums of stored checks -/

theorem storedSum_foldl (es : List (Entry ρ)) (v : CheckSum) :
    es.foldl (fun v e => v + e.check.setWidth 32) v = v + storedSum es := by
  induction es generalizing v with
  | nil => simp [storedSum]
  | cons e es ih =>
    simp only [storedSum, List.foldl_cons] at ih ⊢
    rw [ih, ih (0 + _)]; simp [BitVec.add_assoc]

@[simp] theorem storedSum_nil : storedSum ([] : List (Entry ρ)) = 0 := rfl

@[simp] theorem storedSum_cons (e : Entry ρ) (es : List (Entry ρ)) :
    storedSum (e :: es) = e.check.setWidth 32 + storedSum es := by
  simp only [storedSum, List.foldl_cons]; rw [storedSum_foldl]; simp [storedSum]

theorem storedSum_insertEntry (e : Entry ρ) (es : List (Entry ρ)) :
    storedSum (insertEntry e es) = storedSum es + e.check.setWidth 32 := by
  induction es with
  | nil => simp [insertEntry]
  | cons x xs ih =>
    simp only [insertEntry]; split
    · simp [BitVec.add_comm]
    · simp [ih, BitVec.add_assoc]

/-! ## Slots -/

/-- An inserted entry is the only new one. -/
theorem mem_insertEntry {e x : Entry ρ} {es : List (Entry ρ)} : x ∈ insertEntry e es ↔ x = e ∨ x ∈ es := by
  induction es with
  | nil => simp [insertEntry]
  | cons y ys ih =>
    simp only [insertEntry]; split
    · simp
    · simp [ih]; tauto

/-- The entry goes to its place: ascending slots stay so where the slot is free. -/
theorem insertEntry_slots {e : Entry ρ} {es : List (Entry ρ)} (h : es.Pairwise fun a b => a.slot < b.slot)
    (free : ∀ x ∈ es, x.slot ≠ e.slot) : (insertEntry e es).Pairwise fun a b => a.slot < b.slot := by
  induction es with
  | nil => simp [insertEntry]
  | cons y ys ih =>
    obtain ⟨hy, hys⟩ := List.pairwise_cons.mp h
    have fy := free y (by simp)
    simp only [insertEntry]; split
    case isTrue lt =>
      refine List.pairwise_cons.mpr ⟨fun z hz => ?_, h⟩
      rcases List.mem_cons.mp hz with rfl | hz
      · exact lt
      · have := hy z hz; omega
    case isFalse nlt =>
      refine List.pairwise_cons.mpr ⟨fun z hz => ?_, ih hys fun x hx => free x (by simp [hx])⟩
      rcases mem_insertEntry.mp hz with rfl | hz
      · omega
      · exact hy z hz

/-- The lowest free slot from `n` up is at least `n`, is free, and every slot from `n` to it is taken (R31). -/
theorem lowestFreeFrom_spec (es : List (Entry ρ)) (n : Nat) (h : es.Pairwise fun a b => a.slot < b.slot)
    (ge : ∀ e ∈ es, n ≤ e.slot) :
    n ≤ lowestFreeFrom n es ∧ (∀ e ∈ es, e.slot ≠ lowestFreeFrom n es) ∧
      ∀ k, n ≤ k → k < lowestFreeFrom n es → ∃ e ∈ es, e.slot = k := by
  induction es generalizing n with
  | nil => simp [lowestFreeFrom]
  | cons x xs ih =>
    obtain ⟨hx, hxs⟩ := List.pairwise_cons.mp h
    have gx := ge x (by simp)
    simp only [lowestFreeFrom]; split
    case isTrue eq =>
      obtain ⟨a, b, c⟩ := ih (n + 1) hxs fun e he => by have := hx e he; omega
      refine ⟨by omega, fun e he => ?_, fun k hk hlt => ?_⟩
      · rcases List.mem_cons.mp he with rfl | he
        · omega
        · exact b e he
      · rcases Nat.lt_or_ge n k with lt | le
        · obtain ⟨e, he, hs⟩ := c k lt hlt; exact ⟨e, by simp [he], hs⟩
        · exact ⟨x, by simp, by omega⟩
    case isFalse ne =>
      refine ⟨Nat.le_refl _, fun e he => ?_, fun k hk hlt => by omega⟩
      rcases List.mem_cons.mp he with rfl | he
      · exact ne
      · have := hx e he; omega

/-! ## Insertion -/

@[simp] theorem Table.insert_health (t : Table ρ) (check : ρ → Check) (r : ρ) :
    (t.insert check r).health = t.health := rfl

/-- After an insertion under a fresh key, that key finds the new record and every other key finds what it found. -/
theorem Table.insert_entry? (t : Table ρ) (key : ρ → Nat) (check : ρ → Check) (r : ρ) (k : Nat)
    (fresh : ∀ e ∈ t.entries, key e.rcd ≠ key r) :
    ((t.insert check r).entry? key k).map (·.rcd) =
      if k = key r then some r else (t.entry? key k).map (·.rcd) := by
  suffices ∀ es : List (Entry ρ), (∀ e ∈ es, key e.rcd ≠ key r) →
      ((insertEntry { slot := t.lowestFree, rcd := r, check := check r } es).find? fun e => key e.rcd == k).map (·.rcd) =
        if k = key r then some r else (es.find? fun e => key e.rcd == k).map (·.rcd) from this t.entries fresh
  intro es
  induction es with
  | nil =>
    intro _
    by_cases h : k = key r
    · simp [insertEntry, h]
    · have : (key r == k) = false := by simpa using Ne.symm h
      simp [insertEntry, h, this]
  | cons x xs ih =>
    intro fr
    have fx := fr x (by simp)
    have ih := ih fun e he => fr e (by simp [he])
    simp only [insertEntry]; split
    · by_cases h : k = key r
      · simp [h]
      · simp [List.find?_cons, h, Ne.symm h]
    · by_cases hx : key x.rcd = k
      · have : k ≠ key r := fun h => fx (hx.trans h)
        simp [hx, this]
      · simp [hx, ih]

/-- An insertion keeps a table lawful (R31, R43, R44). -/
theorem Table.Lawful.insert {t : Table ρ} {check : ρ → Check} (h : t.Lawful check) (r : ρ) :
    (t.insert check r).Lawful check where
  slots := insertEntry_slots h.slots (lowestFreeFrom_spec t.entries 0 h.slots (by simp)).2.1
  checks e he := by rcases mem_insertEntry.mp he with rfl | he; exacts [rfl, h.checks e he]
  sum := by simp [Table.insert, storedSum_insertEntry, h.sum]

/-- An insertion under a fresh key, with a slot free, keeps a table a map (R30). -/
theorem Table.IsMap.insert {t : Table ρ} {key : ρ → Nat} {capacity : Nat} (h : t.IsMap key capacity)
    (check : ρ → Check) (r : ρ) (fresh : ∀ e ∈ t.entries, key e.rcd ≠ key r) (free : t.lowestFree < capacity) :
    (t.insert check r).IsMap key capacity where
  bounded e he := by rcases mem_insertEntry.mp he with rfl | he; exacts [free, h.bounded e he]
  keys := by
    have := h.keys
    simp only [Table.insert]
    generalize t.entries = es at this fresh
    induction es with
    | nil => simp [insertEntry]
    | cons x xs ih =>
      obtain ⟨hx, hxs⟩ := List.pairwise_cons.mp this
      simp only [insertEntry]; split
      · exact List.pairwise_cons.mpr ⟨fun z hz => Ne.symm (fresh z hz), this⟩
      · refine List.pairwise_cons.mpr ⟨fun z hz => ?_, ih hxs fun e he => fresh e (by simp [he])⟩
        rcases mem_insertEntry.mp hz with rfl | hz
        · exact fresh x (by simp)
        · exact hx z hz

/-! ## Update -/

/-- The record under a key, with its entry, where the key is present. -/
theorem Table.entry?_spec {t : Table ρ} {key : ρ → Nat} {k : Nat} {e : Entry ρ} (h : t.entry? key k = some e) :
    e ∈ t.entries ∧ key e.rcd = k :=
  ⟨List.mem_of_find?_eq_some h, by simpa using List.find?_some h⟩

/-- A key is absent exactly where no entry holds it. -/
theorem Table.entry?_none {t : Table ρ} {key : ρ → Nat} {k : Nat} :
    t.entry? key k = none ↔ ∀ e ∈ t.entries, key e.rcd ≠ k := by
  simp [Table.entry?]

/-- After an update the updated key finds the new record where it was present, and every other key finds what it found. -/
theorem Table.update_entry? (t : Table ρ) (key : ρ → Nat) (check : ρ → Check) (r : ρ) (k : Nat) :
    ((t.update key check r).entry? key k).map (·.rcd) =
      if k = key r then (t.entry? key k).map fun _ => r else (t.entry? key k).map (·.rcd) := by
  have key_lemma : ∀ es : List (Entry ρ),
      ((replaceEntries key (key r) r (check r) es).find? fun e => key e.rcd == k).map (·.rcd) =
        if k = key r then (es.find? fun e => key e.rcd == k).map fun _ => r
        else (es.find? fun e => key e.rcd == k).map (·.rcd) := by
    intro es
    induction es with
    | nil => simp [replaceEntries]
    | cons x xs ih =>
      simp only [replaceEntries]; split
      case isTrue hx =>
        by_cases h : k = key r
        · simp [h, hx]
        · simp [h, Ne.symm h, hx]
      case isFalse hx =>
        by_cases hk : key x.rcd = k
        · have : k ≠ key r := fun h => hx (hk.trans h)
          simp [hk, this]
        · simp [hk, ih]
  unfold Table.update
  split
  case h_1 h => by_cases hk : k = key r <;> simp [hk, h]
  case h_2 e h => simpa [Table.entry?] using key_lemma t.entries

theorem replaceEntries_slots (key : ρ → Nat) (k : Nat) (r : ρ) (c : Check) (es : List (Entry ρ)) :
    (replaceEntries key k r c es).map (·.slot) = es.map (·.slot) := by
  induction es with
  | nil => rfl
  | cons x xs ih => simp only [replaceEntries]; split <;> simp [ih]

theorem mem_replaceEntries {key : ρ → Nat} {k : Nat} {r : ρ} {c : Check} {es : List (Entry ρ)} {x : Entry ρ}
    (h : x ∈ replaceEntries key k r c es) : x ∈ es ∨ ∃ y ∈ es, key y.rcd = k ∧ x = { y with rcd := r, check := c } := by
  induction es with
  | nil => simp [replaceEntries] at h
  | cons y ys ih =>
    simp only [replaceEntries] at h
    split at h
    case isTrue hy =>
      rcases List.mem_cons.mp h with rfl | h
      · exact .inr ⟨y, by simp, hy, rfl⟩
      · exact .inl (by simp [h])
    case isFalse =>
      rcases List.mem_cons.mp h with rfl | h
      · exact .inl (by simp)
      · rcases ih h with h | ⟨z, hz, e⟩
        · exact .inl (by simp [h])
        · exact .inr ⟨z, by simp [hz], e⟩

theorem storedSum_replaceEntries (key : ρ → Nat) (k : Nat) (r : ρ) (c : Check) (es : List (Entry ρ)) (e : Entry ρ)
    (h : (es.find? fun e => key e.rcd == k) = some e) :
    storedSum (replaceEntries key k r c es) = storedSum es - e.check.setWidth 32 + c.setWidth 32 := by
  induction es with
  | nil => simp at h
  | cons x xs ih =>
    simp only [replaceEntries]; split
    case isTrue hx =>
      have : x = e := by simpa [List.find?_cons, hx] using h
      subst this; simp; bv_omega
    case isFalse hx =>
      have := ih (by simpa [List.find?_cons, hx] using h)
      simp [this]; bv_omega

/-- An update keeps a table lawful (R31, R43, R44). -/
theorem Table.Lawful.update {t : Table ρ} {check : ρ → Check} (h : t.Lawful check) (key : ρ → Nat) (r : ρ) :
    (t.update key check r).Lawful check := by
  unfold Table.update
  split
  case h_1 => exact h
  case h_2 e he =>
    refine ⟨?_, fun x hx => ?_, ?_⟩
    · have := replaceEntries_slots key (key r) r (check r) t.entries
      have hs := h.slots
      rw [← List.pairwise_map (f := fun e : Entry ρ => e.slot) (R := (· < ·))] at hs ⊢
      rwa [this]
    · rcases mem_replaceEntries hx with hx | ⟨y, _, _, rfl⟩
      · exact h.checks x hx
      · rfl
    · simp [storedSum_replaceEntries key (key r) r (check r) t.entries e he, h.sum]

/-- An update keeps a table a map (R30). -/
theorem Table.IsMap.update {t : Table ρ} {key : ρ → Nat} {capacity : Nat} (h : t.IsMap key capacity)
    (check : ρ → Check) (r : ρ) : (t.update key check r).IsMap key capacity := by
  unfold Table.update
  split
  case h_1 => exact h
  case h_2 e he =>
    refine ⟨?_, fun x hx => ?_⟩
    · have keys : ∀ es : List (Entry ρ),
          (replaceEntries key (key r) r (check r) es).map (fun e => key e.rcd) = es.map fun e => key e.rcd := by
        intro es
        induction es with
        | nil => rfl
        | cons x xs ih =>
          simp only [replaceEntries]; split
          case isTrue hx => simp [hx]
          case isFalse => simp [ih]
      have hk := h.keys
      rw [← List.pairwise_map (f := fun e : Entry ρ => key e.rcd) (R := (· ≠ ·))] at hk ⊢
      simp only [keys]; exact hk
    · rcases mem_replaceEntries hx with hx | ⟨y, hy, _, rfl⟩
      · exact h.bounded x hx
      · exact h.bounded y hy

/-! ## Removal -/

theorem removeEntries_sublist (key : ρ → Nat) (k : Nat) (es : List (Entry ρ)) :
    (removeEntries key k es).Sublist es := by
  induction es with
  | nil => simp [removeEntries]
  | cons x xs ih =>
    simp only [removeEntries]; split
    · exact List.sublist_cons_self x xs
    · exact ih.cons_cons x

theorem storedSum_removeEntries (key : ρ → Nat) (k : Nat) (es : List (Entry ρ)) (e : Entry ρ)
    (h : (es.find? fun e => key e.rcd == k) = some e) :
    storedSum (removeEntries key k es) = storedSum es - e.check.setWidth 32 := by
  induction es with
  | nil => simp at h
  | cons x xs ih =>
    simp only [removeEntries]; split
    case isTrue hx =>
      have : x = e := by simpa [List.find?_cons, hx] using h
      subst this; simp
    case isFalse hx =>
      have := ih (by simpa [List.find?_cons, hx] using h)
      simp [this]; bv_omega

/-- A removal keeps a table lawful (R31, R43, R44). -/
theorem Table.Lawful.remove {t : Table ρ} {check : ρ → Check} (h : t.Lawful check) (key : ρ → Nat) (k : Nat) :
    (t.remove key k).Lawful check := by
  unfold Table.remove
  split
  case h_1 => exact h
  case h_2 e he =>
    have sub := removeEntries_sublist key k t.entries
    exact ⟨h.slots.sublist sub, fun x hx => h.checks x (sub.subset hx),
      by simp [storedSum_removeEntries key k t.entries e he, h.sum]⟩

/-- A removal keeps a table a map (R30). -/
theorem Table.IsMap.remove {t : Table ρ} {key : ρ → Nat} {capacity : Nat} (h : t.IsMap key capacity) (k : Nat) :
    (t.remove key k).IsMap key capacity := by
  unfold Table.remove
  split
  case h_1 => exact h
  case h_2 e he =>
    have sub := removeEntries_sublist key k t.entries
    exact ⟨h.keys.sublist sub, fun x hx => h.bounded x (sub.subset hx)⟩

/-- After a removal from a map the removed key is absent, and every other key finds what it found. -/
theorem Table.remove_entry? {t : Table ρ} {key : ρ → Nat} {capacity : Nat} (h : t.IsMap key capacity) (k j : Nat) :
    (t.remove key k).entry? key j = if j = k then none else t.entry? key j := by
  have key_lemma : ∀ es : List (Entry ρ), (es.Pairwise fun a b => key a.rcd ≠ key b.rcd) →
      ((removeEntries key k es).find? fun e => key e.rcd == j) =
        if j = k then none else es.find? fun e => key e.rcd == j := by
    intro es
    induction es with
    | nil => simp [removeEntries]
    | cons x xs ih =>
      intro hp
      obtain ⟨hx, hxs⟩ := List.pairwise_cons.mp hp
      simp only [removeEntries]; split
      case isTrue eq =>
        by_cases hj : j = k
        · subst hj
          simp only [if_true, List.find?_eq_none, beq_iff_eq]
          exact fun e he => fun h => hx e he (eq.trans h.symm)
        · simp [hj, eq, Ne.symm hj]
      case isFalse ne =>
        by_cases hj : key x.rcd = j
        · have : j ≠ k := fun h => ne (hj.trans h)
          simp [hj, this]
        · simp [hj, ih hxs]
  unfold Table.remove
  split
  case h_1 h0 =>
    by_cases hj : j = k
    · simp [hj, h0]
    · simp [hj]
  case h_2 => exact key_lemma t.entries h.keys

end Sys2Proof.Machine
end

