-- ==== Sys2Proof/Tests/Slice0.lean ====
section
/-! SUPPORT. Small tests. The first part checks the model against values the spec gives: its worked cases and its tables.
The second part shows, for each statement of Certificates/Slice0/Obligations.lean that has hypotheses, a state and operands
that meet them, clause by clause and at the ends of their ranges. -/

namespace Sys2Proof.Tests

open Sys2Proof.Machine

/-! ## Well-formed commands -/

/-- WellFormed refuses a payload of 1,025 bytes, and takes one of 1,024 (R159). -/
theorem test_wf_payload :
    (Instr.scanTake .console 1 (List.replicate 1025 0)).wf = false ∧
    (Instr.scanTake .console 1 (List.replicate 1024 0)).wf = true := by decide +kernel

/-- WellFormed refuses an UNKNOWN_REQUEST whose code names a request, 1 or 31, and takes 0 and 32 (R161, R162). -/
theorem test_wf_unknown :
    (Instr.unknownRequest .kiosk 1 1 []).wf = false ∧ (Instr.unknownRequest .kiosk 1 31 []).wf = false ∧
    (Instr.unknownRequest .kiosk 1 0 []).wf = true ∧ (Instr.unknownRequest .kiosk 1 32 []).wf = true := by decide

/-- WellFormed refuses a stop-bit error at the Console port, which is no UART (R159). -/
theorem test_wf_stopBit :
    (Instr.stopBitError .console []).wf = false ∧ (Instr.stopBitError .uplink []).wf = true := by decide

/-! ## Values of the spec: labels (chapter 1) -/

/-- Section 1.9: the widths 41, 118, 39, 122, 44 are digit 6; with 75 for the third it is AMBIGUOUS. -/
theorem test_classify :
    classify [41, 118, 39, 122, 44] = some (.digit 6) ∧ classify [41, 118, 75, 122, 44] = none := by decide

/-- Section 1.9: the check digit of 0041739025 is 2. -/
theorem test_checkDigit : checkValue [0, 0, 4, 1, 7, 3, 9, 0, 2, 5] = 2 := by decide

/-- Section 1.9: the label I 0041739025, with elements of 40 and 120 µs, has 83 elements lasting 5,640 µs. -/
def sweptLabel : List Nat := printedLabel .item [0, 0, 4, 1, 7, 3, 9, 0, 2, 5] 40 120 40

theorem test_sweptLabel : sweptLabel.length = 83 ∧ sweptLabel.sum = 5640 := by decide +kernel

/-- Section 1.9: swept forward it is that item; R6: swept the other way too. -/
theorem test_decode :
    decodeScan 83 sweptLabel = .label .item 41739025 .forward ∧
    decodeScan 83 sweptLabel.reverse = .label .item 41739025 .backward := by decide +kernel

/-- R2, R9: an element list of another count is LENGTH, whatever it holds. -/
theorem test_decodeLength : decodeScan 84 sweptLabel = .misread { cause := .length, position := none } := by decide

/-- R2: an element's width across a wrap of the 32-bit timer, and its two ends. -/
theorem test_elementWidth :
    elementWidth 0xFFFFFFF0#32 0x10#32 = 32 ∧ elementWidth 5 5 = 1 ∧ elementWidth 0 0x10000#32 = 65535 := by decide

/-! ## Values of the spec: frames (chapter 11) -/

/-- R159: the CRC-16 of the nine characters "123456789" is 0x29B1. -/
theorem test_crc : crc16 [0x31, 0x32, 0x33, 0x34, 0x35, 0x36, 0x37, 0x38, 0x39] = 0x29B1#16 := by decide +kernel

/-- R159: a length above 1,024 is judged at its second byte. -/
theorem test_longLength : Receiver.hunt.run [0xC3, 0x04, 0x01] = (.hunt, [.bad]) := by decide +kernel

/-- R167: a multi-byte value goes most significant byte first. -/
theorem test_bytesOf : bytesOf 4 0x12345678 = [0x12, 0x34, 0x56, 0x78] ∧ valueOf [1, 0] = 256 := by decide

/-- R162: the code 31 is NIGHT_LEAVE; 0 and 32 name no request. -/
theorem test_codes :
    ReqCode.ofByte 31 = some .nightLeave ∧ ReqCode.ofByte 0 = none ∧ ReqCode.ofByte 32 = none := by decide

/-- R167: the reply flags' bits. -/
theorem test_replyFlags :
    ReplyFlags.byte { clamped := true } = 0x01 ∧ ReplyFlags.byte { stale := true } = 0x02 ∧
    ReplyFlags.byte { holdRoute := true } = 0x04 ∧ ReplyFlags.byte { implicitReturn := true } = 0x08 ∧
    ReplyFlags.byte { slipLost := true } = 0x10 := by decide

/-! ## Values of the spec: days and fines (chapter 4) -/

/-- The calendar of section 4.5: day 0 is Monday 1 January 2024, Sunday and day 221 are closed. -/
def worked : Calendar where
  year := 2024
  month := 1
  day := 1
  weekday0 := 0
  closedMask := 0x40#7
  base := 0
  closedDays := BitVec.ofNat 512 (2 ^ 221)

/-- Section 4.5, the rows of the due-day table. -/
theorem test_dueDays :
    worked.dueDay 200 21 400 = 222 ∧ worked.dueDay 202 21 400 = 224 ∧ worked.dueDay 200 21 215 = 215 ∧
    worked.dueDay 200 21 216 = 215 ∧ worked.dueDay 200 21 200 = 200 ∧ worked.dueDay 65530 21 65535 = 65535 := by
  decide +kernel

/-- Section 4.5, the shift limit: days 221 to 236 closed give 235; the closed day 65,535 stands at the top. -/
theorem test_shiftLimit :
    Calendar.dueDay { worked with closedDays := BitVec.ofNat 512 ((2 ^ 16 - 1) * 2 ^ 221) } 200 21 400 = 235 ∧
    Calendar.dueDay { worked with base := 65100, closedDays := BitVec.ofNat 512 (2 ^ 435) } 65530 21 65535 = 65535 ∧
    Calendar.isOpen { worked with base := 65100, closedDays := BitVec.ofNat 512 (2 ^ 435) } 65535 = false := by
  decide +kernel

/-- Section 4.9, the worked conversions. -/
theorem test_civil :
    worked.civil 200 = { year := 2024, month := 7, day := 19 } ∧ worked.weekday 200 = 4 ∧
    worked.civil 425 = { year := 2025, month := 3, day := 1 } ∧ worked.weekday 425 = 5 ∧
    Calendar.civil { worked with year := 2100, month := 2 } 28 = { year := 2100, month := 3, day := 1 } ∧
    Calendar.civil { worked with year := 2000, month := 2 } 28 = { year := 2000, month := 2, day := 29 } := by
  decide +kernel

/-- R64: 36,135 prints as 10:02 and 86,399 as 23:59. -/
theorem test_timeText :
    timeText 36135 = charCodes ['1', '0', ':', '0', '2'] ∧ timeText 86399 = charCodes ['2', '3', ':', '5', '9'] := by
  decide +kernel

/-- The policy of section 4.7: class 3 has grace 2, rate 25 and cap 1,000. -/
def workedPolicy : PolicyData :=
  { defaultPolicyData with
    calendar := worked
    classTerms := List.replicate 3 { grace := 0, rate := 0, cap := 0 } ++
      List.replicate 13 { grace := 2, rate := 25, cap := 1000 } }

/-- The loan of section 4.7, made on day 200 and due on day 222. -/
def loan7 : LoanRecord where
  item := 41739025
  borrower := 5503120047
  itemClass := 3
  outDay := 200
  dueDay := 222
  chargedThrough := 222
  fineAccrued := 0
  renewals := 0
  desk := .kiosk
  countedOverdue := false
  overridden := false

/-- Section 4.7: nothing is charged on day 224; on day 225 two open days make 50; a closed day moves C alone. -/
theorem test_charge :
    (chargeLoan workedPolicy 224 loan7 (some 340)).loan = loan7 ∧
    (chargeLoan workedPolicy 225 loan7 (some 340)).addedBalance = 50 ∧
    (chargeLoan workedPolicy 225 loan7 (some 340)).loan.chargedThrough = 225 ∧
    (chargeLoan workedPolicy 230 { loan7 with fineAccrued := 150, chargedThrough := 229 } (some 490)).addedLoan = 0 ∧
    (chargeLoan workedPolicy 230 { loan7 with fineAccrued := 150, chargedThrough := 229 } (some 490)).loan.chargedThrough =
      230 := by decide +kernel

/-- R60, R61: a balance at 999,990 takes 9 of 50 and the entry is SATURATED; an absent borrower takes nothing. -/
theorem test_chargeSaturates :
    (chargeLoan workedPolicy 225 loan7 (some 999990)).addedBalance = 9 ∧
    (chargeLoan workedPolicy 225 loan7 (some 999990)).saturated = true ∧
    (chargeLoan workedPolicy 225 loan7 none).addedBalance = 0 := by decide +kernel

/-! ## Values of the spec: tables (chapter 3), slips (chapter 7), journal (chapter 8) -/

/-- Section 3.12: the loan due 215 enters ahead of the one due 222, and a second one due 222 behind it. -/
theorem test_loanList :
    let due := fun i => if i = 41880316 then 215 else 222
    enterList due 30551842 222 (enterList due 41880316 215 [41739025]) = [41880316, 41739025, 30551842] := by decide

/-- Section 3.12: the loan map's sum is taken modulo 2^32. -/
theorem test_tableSum :
    (4294960000#32 : CheckSum) + (41207#16 : Check).setWidth 32 = 33911 ∧
    (33911#32 : CheckSum) + (9330#16 : Check).setWidth 32 = 43241 := by decide

/-- Section 3.12, R31: with slot 1 alone free below slot 5, the lowest free slot is 1. -/
theorem test_lowestFree :
    lowestFreeFrom 0 ([0, 2, 3, 4].map fun n => ({ slot := n, rcd := (), check := 0 } : Entry Unit)) = 1 := by decide

/-- Section 7.7: the rendered kiosk slip has 8 lines and its stream 136 characters. -/
theorem test_slip :
    let terms := { defaultKioskTerms with
      branchName := charCodes
        ['C', 'E', 'N', 'T', 'R', 'A', 'L', ' ', 'L', 'I', 'B', 'R', 'A', 'R', 'Y', ' ', 'K', 'I', 'O', 'S', 'K'] }
    let text := Slip.render { workedPolicy with desks := { defaultDesks with kiosk := terms } }
      { desk := .kiosk, day := 200, time := 36148
        body := .loan 5503120047
          [{ item := 41739025, dueDay := 222, renewed := false }, { item := 41880316, dueDay := 222, renewed := false }] }
    text.map List.length = [21, 21, 10, 15, 19, 15, 19, 7] ∧ (stream text).length = 136 ∧
    text[2]? = some (charCodes ['*', '*', '*', '*', '*', '*', '0', '0', '4', '7']) := by decide +kernel

/-- R125: the levels at the ends of their ranges. -/
theorem test_levels :
    levelOf 1535 = .calm ∧ levelOf 1536 = .prompt ∧ levelOf 2303 = .prompt ∧ levelOf 2304 = .pressed ∧
    levelOf 2943 = .pressed ∧ levelOf 2944 = .critical ∧ levelOf 3071 = .critical ∧ levelOf 3072 = .full := by decide

/-! ## Small states for the statements' hypotheses -/

/-- The state after reset, moved to a part state. -/
def inPart (st : PartState) : State := { State.reset with control := { State.reset.control with part := st } }

/-- A borrower with one loan. -/
def borrower1 : BorrowerRecord where
  number := 5503120047
  category := 1
  expiryDay := 400
  fineBalance := 999999
  loanCount := 1
  overdueLoans := 0
  serverBlock := 0
  origin := .downloaded
  stale := true

/-- A borrower with no loan. -/
def borrower2 : BorrowerRecord where
  number := 2210087765
  category := 0
  expiryDay := 400
  fineBalance := 0
  loanCount := 0
  overdueLoans := 0
  serverBlock := 0
  origin := .provisional
  stale := false

/-- An exception entry. -/
def exception1 : ExceptionRecord where
  item := 41739025
  holdFor := some 2210087765
  notLoanable := false
  missing := false
  classOverride := none

/-- Another exception entry, with a class override alone. -/
def exception2 : ExceptionRecord where
  item := 30551842
  holdFor := none
  notLoanable := false
  missing := true
  classOverride := some 7

/-- A request in flight at a port with work for the engine. -/
def flight (op : EngineOp) : InFlight where
  tag := 1
  code := .checkout
  op := some op
  started := true
  label := none
  discard := false

/-- What a port is being served. -/
def servingOf (r : Requester) (plan : Plan) : Serving where
  who := r
  day := 225
  time := 36000
  policy := workedPolicy
  plan := plan

/-- A part in the given state with two borrowers, one loan and two exception entries, where a requester is being served and
the Scrubber waits, unless it is the one served. -/
def stocked (st : PartState) (r : Requester) (plan : Plan) : State :=
  { State.reset with
    control := { State.reset.control with part := st }
    clock := { State.reset.clock with today := 225, time := 36000, dateUnset := false }
    borrowers :=
      { entries :=
          [{ slot := 0, rcd := borrower1, check := borrowerCheck borrower1 },
           { slot := 6143, rcd := borrower2, check := borrowerCheck borrower2 }]
        sum := 0 + (borrowerCheck borrower1).setWidth 32 + (borrowerCheck borrower2).setWidth 32, health := .sound }
    loans :=
      { entries := [{ slot := 12287, rcd := loan7, check := loanCheck loan7 }]
        sum := 0 + (loanCheck loan7).setWidth 32, health := .sound }
    loanLists := [(5503120047, [41739025])]
    items :=
      { entries :=
          [{ slot := 1, rcd := exception1, check := exceptionCheck exception1 },
           { slot := 2047, rcd := exception2, check := exceptionCheck exception2 }]
        sum := 0 + (exceptionCheck exception1).setWidth 32 + (exceptionCheck exception2).setWidth 32, health := .sound }
    engine :=
      { Engine.start with
        serving := some (servingOf r plan)
        waiting := { noRequester with scrubber := r != .scrubber } }
    sweep := if r = .sweep then { state := .served, cursor := 12256, firstBatch := true } else Sweep.start }

/-- The same with a port's operation in flight. -/
def servingPort (st : PartState) (p : Port) (plan : Plan) (op : EngineOp) : State :=
  (stocked st (portRequester p) plan).modPort p fun q => { q with inFlight := some (flight op) }

theorem stocked_maps (st : PartState) (r : Requester) (plan : Plan) : (stocked st r plan).TablesAreMaps :=
  ⟨⟨by simp [stocked, borrower1, borrower2], by simp [stocked, borrowerCapacity]⟩,
   ⟨by simp [stocked], by simp [stocked, loanCapacity]⟩,
   ⟨by simp [stocked, exception1, exception2], by simp [stocked, itemCapacity]⟩⟩

theorem servingPort_maps (st : PartState) (p : Port) (plan : Plan) (op : EngineOp) :
    (servingPort st p plan op).TablesAreMaps := by
  have h := stocked_maps st (portRequester p) plan
  cases p <;> exact ⟨h.borrowers, h.loans, h.items⟩

theorem stocked_lawful (st : PartState) (r : Requester) (plan : Plan) : (stocked st r plan).TablesLawful :=
  ⟨⟨by simp [stocked], by simp [stocked], rfl⟩, ⟨by simp [stocked], by simp [stocked], rfl⟩,
   ⟨by simp [stocked], by simp [stocked], rfl⟩, rfl, rfl⟩

theorem servingPort_lawful (st : PartState) (p : Port) (plan : Plan) (op : EngineOp) :
    (servingPort st p plan op).TablesLawful := by
  have h := stocked_lawful st (portRequester p) plan
  cases p <;> exact ⟨h.borrowers, h.loans, h.items, h.policyChecks, h.policySum⟩

theorem stocked_lists (st : PartState) (r : Requester) (plan : Plan) : (stocked st r plan).LoanListsLawful := by
  have lists : ∀ b, (stocked st r plan).loanList b = if b = 5503120047 then [41739025] else [] := fun b => by
    by_cases h : b = 5503120047
    · simp [State.loanList, stocked, h]
    · have : ¬5503120047 = b := fun e => h e.symm
      simp [State.loanList, stocked, h, this]
  have loans : ∀ i, (stocked st r plan).loan? i = if i = 41739025 then some loan7 else none := fun i => by
    by_cases h : i = 41739025
    · simp [State.loan?, Table.entry?, stocked, loan7, h]
    · have : ¬41739025 = i := fun e => h e.symm
      simp [State.loan?, Table.entry?, stocked, loan7, h, this]
  refine ⟨by simp [stocked], by simp [stocked], fun b i => ?_, fun b => ?_, fun b => ?_⟩
  · rw [lists, loans]
    by_cases hb : b = 5503120047 <;> by_cases hi : i = 41739025 <;> simp [hb, hi, loan7, eq_comm]
  · rw [lists]; split <;> simp
  · rw [lists]; split <;> simp

theorem servingPort_lists (st : PartState) (p : Port) (plan : Plan) (op : EngineOp) :
    (servingPort st p plan op).LoanListsLawful := by
  have h := stocked_lists st (portRequester p) plan
  cases p <;> exact ⟨h.owners, h.filled, h.members, h.once, h.ordered⟩

/-! ## The machine and the laws -/

/-- A port with its queues full: 8 notices, 4 answers, and the reply of the request in flight. -/
def fullPort : PortState :=
  { PortState.start with
    inFlight := some { flight (.returnItem 0) with op := none }
    notices := List.replicate 8 .batteryLow
    outQ := { tag := 1, code := .ok, request := 2, flags := {}, results := [], isReply := true } ::
      List.replicate 4 { tag := 1, code := .busy, request := 2, flags := {}, results := [], isReply := false } }

/-- A desk at its bounds: 8 labels, 16 slips, 7 lines, a borrower bound, a printer in GAP. -/
def fullDesk : DeskSide :=
  { DeskSide.atReset with
    ctx :=
      { DeskContext.start with
        bound := some { borrower := 5503120047, time := 0 }
        idle := some 1
        queue := List.replicate 8 { kind := .item, number := 1, direction := .forward, time := 0 }
        openSlip := some
          { borrower := 5503120047, day := 0, time := 0
            lines := List.replicate 7 { item := 1, dueDay := 0, renewed := false } }
        gather := some 1 }
    spooler :=
      { Spooler.start with
        spool := List.replicate 16 { desk := .console, day := 0, time := 0, body := .payment 1 0 }
        state := .gap, gapTimer := some 1 } }

/-- A part in OPEN that serves a RETURN of the Console port, its desks and the Kiosk port at their bounds, and a RETURN
commit at the front of its queue. -/
def lending : State :=
  { servingPort .open .console .plain (.returnItem 41739025) with
    console := fullDesk
    kiosk := fullDesk
    kioskPort := fullPort
    pending := [.returnCommit] }

/-- Step moves it on. -/
theorem test_lending_steps : ∃ t, step lending = .next t := ⟨_, rfl⟩

/-- EmptyQueuePassesAMillisecond: within a second, at its end, and at the day's end; timers at their last unit and before
it. -/
theorem test_EmptyQueuePassesAMillisecond_hypotheses :
    State.reset.pending = [] ∧
    (let s := { State.reset with clock := { State.reset.clock with fraction := 998 } }
     s.pending = [] ∧ s.clock.fraction < 999) ∧
    (let s := { State.reset with clock := { State.reset.clock with fraction := 999, time := 86398 } }
     s.pending = [] ∧ s.clock.fraction = 999 ∧ s.clock.time < 86399) ∧
    (let s := { State.reset with clock := { State.reset.clock with fraction := 999, time := 86399 } }
     s.pending = [] ∧ s.clock.fraction = 999 ∧ ¬s.clock.time < 86399) ∧
    let s := { lending with pending := [], clock := { lending.clock with fraction := 999, phase := 999, time := 32399 } }
    s.pending = [] ∧ s.console.ctx.idle = some 1 ∧ s.console.spooler.gapTimer = some 1 ∧
    s.control.batteryTimer = some 60 ∧ s.clock.time + 1 = s.policy.data.desks.opening ∧
    s.clock.dateUnset = false := by decide

/-- TableSumsStay, TablesStayMaps, LoanListsFollowTheMap: the tables. -/
theorem test_tables_hypotheses :
    lending.TablesLawful ∧ lending.TablesAreMaps ∧ lending.GrantLawful ∧ lending.LoanListsLawful := by
  have a := servingPort_lawful .open .console .plain (.returnItem 41739025)
  have b := servingPort_maps .open .console .plain (.returnItem 41739025)
  have c := servingPort_lists .open .console .plain (.returnItem 41739025)
  refine ⟨⟨a.borrowers, a.loans, a.items, a.policyChecks, a.policySum⟩, ⟨b.borrowers, b.loans, b.items⟩, ?_,
    ⟨c.owners, c.filled, c.members, c.once, c.ordered⟩⟩
  intro v p op h
  have : lending.served = some (servingOf .console .plain, .console, .returnItem 41739025) := rfl
  rw [this] at h; cases h; trivial

theorem lending_borrowers {e : Entry BorrowerRecord} (he : e ∈ lending.borrowers.entries) :
    e.rcd = borrower1 ∨ e.rcd = borrower2 := by
  have : e ∈ (stocked .open .console .plain).borrowers.entries := he
  simp only [stocked, List.mem_cons, List.not_mem_nil, or_false] at this
  rcases this with rfl | rfl <;> simp

theorem lending_loans {e : Entry LoanRecord} (he : e ∈ lending.loans.entries) : e.rcd = loan7 := by
  have : e ∈ (stocked .open .console .plain).loans.entries := he
  simp only [stocked, List.mem_cons, List.not_mem_nil, or_false] at this
  rw [this]

theorem lending_items {e : Entry ExceptionRecord} (he : e ∈ lending.items.entries) :
    e.rcd = exception1 ∨ e.rcd = exception2 := by
  have : e ∈ (stocked .open .console .plain).items.entries := he
  simp only [stocked, List.mem_cons, List.not_mem_nil, or_false] at this
  rcases this with rfl | rfl <;> simp

theorem lending_served {v : Serving} {p : Port} {op : EngineOp} (h : lending.served = some (v, p, op)) :
    v = servingOf .console .plain ∧ p = .console ∧ op = .returnItem 41739025 := by
  have : lending.served = some (servingOf .console .plain, .console, .returnItem 41739025) := rfl
  rw [this] at h; cases h; exact ⟨rfl, rfl, rfl⟩

theorem lending_ops {p : Port} {op : EngineOp} (h : lending.portOp p = some op) : op = .returnItem 41739025 := by
  cases p <;> cases h; rfl

/-- BalancesStayInRange: a balance at each end of the range. -/
theorem test_BalancesStayInRange_hypotheses : lending.BalancesLawful := by
  intro e he
  rcases lending_borrowers he with h | h <;> rw [h] <;> decide

/-- BalancesStayInRange: the laws of the records and of the counts, a borrower's one loan charged through its due day. -/
theorem test_BalancesStayInRange_records :
    lending.RecordsLawful ∧ lending.CountsLawful ∧ lending.borrowers.health = .sound ∧
    lending.loans.health = .sound := by
  refine ⟨⟨fun e he => ?_, fun e he => ?_, fun e he => ?_, fun k => ?_, fun v h => ?_, fun e he => ?_, fun v h => ?_,
      fun p fl todo done h ho => ?_⟩,
    ⟨fun b => ?_, fun _ _ e he => ?_, fun _ _ e he => ?_, fun p fl h _ _ => ?_, fun v p b i o c h _ => ?_,
     fun p fl ph c r n h ho => ?_, fun p fl ph c r i u h ho => ?_⟩, rfl, rfl⟩
  · rw [lending_loans he]; decide
  · rw [lending_loans he]; decide
  · rcases lending_items he with h | h <;> rw [h] <;> decide
  · cases k <;> decide +kernel
  · cases h; decide
  · rw [lending_loans he]; decide
  · cases h; decide +kernel
  · cases lending_ops (p := p) (op := .loanLoad todo done) (by simp [State.portOp, h, ho])
  · by_cases h : b = 5503120047
    · subst h; decide
    · have n : ¬5503120047 = b := fun e => h e.symm
      simp [State.loanList, lending, servingPort, stocked, State.modPort, portRequester, n]
  · rw [lending_loans he]; decide
  · rcases lending_borrowers he with h | h <;> rw [h] <;> exact ⟨by decide, by decide⟩
  · cases p <;> cases h <;> rfl
  · cases (lending_served h).2.2
  · cases lending_ops (p := p) (op := .clearLoans ph c r n) (by simp [State.portOp, h, ho])
  · cases lending_ops (p := p) (op := .rebuildBorrowers ph c r i u) (by simp [State.portOp, h, ho])

/-- JournalStaysLawful. -/
theorem test_JournalStaysLawful_hypotheses : lending.journal.Lawful ∧ lending.RoomLawful := by
  refine ⟨⟨rfl, by decide, by decide, fun i h => ?_, by decide⟩, fun v p op h => ?_⟩
  · have : i = 0 := by
      have : lending.journal.entries.length = 1 := rfl
      omega
    subst this; rfl
  · have : lending.served = some (servingOf .console .plain, .console, .returnItem 41739025) := rfl
    rw [this] at h; cases h; decide

/-- DesksStayLawful: both desks at their bounds. -/
theorem test_DesksStayLawful_hypotheses : lending.DesksLawful := by
  have h : fullDesk.Lawful true :=
    ⟨by decide, by decide, by intro o h; cases h; decide, rfl, rfl, rfl, rfl, by decide, by decide, by decide,
     by decide⟩
  refine ⟨fun d => by cases d <;> exact h, fun d _ r hr => ?_, fun _ h => absurd rfl h⟩
  have : r ∈ List.replicate 8 ({ kind := .item, number := 1, direction := .forward, time := 0 } : LabelReport) := by
    cases d <;> exact hr
  rw [List.eq_of_mem_replicate this]

/-- PortsStayLawful: a port with its queues full, one with a request at the engine, and one idle. -/
theorem test_PortsStayLawful_hypotheses : lending.PortsLawful := by
  intro p
  cases p
  · exact ⟨by decide, by decide, by decide, by rintro ⟨f, h, _⟩; cases h⟩
  · exact ⟨by decide, by decide, by decide, fun _ => ⟨_, rfl, rfl⟩⟩
  · exact ⟨by decide, by decide, by decide, by rintro ⟨f, h, _⟩; cases h⟩

/-- An engine that serves one requester, the Scrubber alone waiting, is lawful. -/
theorem engine_serving {s : State} {v : Serving}
    (e : s.engine =
      { Engine.start with serving := some v, waiting := { noRequester with scrubber := v.who != .scrubber } })
    (ports : ∀ p, (s.portOp p).isSome = (v.who == portRequester p))
    (sweep : s.sweep.state = if v.who = .sweep then .served else .idle) (part : s.control.part.running = true) :
    s.EngineLawful := by
  have noWait : ∀ p, s.engine.waiting.get (portRequester p) = false := fun p => by rw [e]; cases p <;> rfl
  have noYield : ∀ r y, (s.engine.yields.get r).get y = false := fun r y => by rw [e]; cases r <;> cases y <;> rfl
  have served : s.engine.serving = some v := by rw [e]
  have serves : ∀ r, s.serves r = (v.who == r) := fun r => by simp [State.serves, served]
  refine ⟨fun w h => ?_, fun r y h => ?_, ⟨fun _ => 0, fun r y h => ?_⟩, fun p => ?_, fun p fl op _ _ _ h => ?_, ?_, ?_,
    ?_, fun _ => ?_, fun h => ?_⟩
  · rw [served] at h; cases h
    refine ⟨?_, fun r => ⟨noYield _ _, noYield _ _⟩⟩
    rw [e]; cases v.who <;> rfl
  · rw [noYield] at h; cases h
  · rw [noYield] at h; cases h
  · rw [noWait, serves, ports]; rfl
  · rw [noWait] at h; cases h
  · rw [sweep, e]; cases v.who <;> rfl
  · rw [sweep, serves]; cases v.who <;> rfl
  · rw [part, served]; rfl
  · rw [serves, e]; cases v.who <;> rfl
  · rw [part] at h; cases h

/-- EngineStaysLawful: one port served, the Scrubber waiting. -/
theorem test_EngineStaysLawful_hypotheses : lending.EngineLawful :=
  engine_serving rfl (fun p => by cases p <;> rfl) rfl rfl

/-- SomeWaitingRequesterIsEligible: the Scrubber waits; a port's request granted before, one that its first grant refuses
and one that it serves. -/
theorem test_SomeWaitingRequesterIsEligible_hypotheses :
    (∃ r, lending.engine.waiting.get r = true) ∧
    (lending.port .console).inFlight = some (flight (.returnItem 41739025)) ∧
    (let s := State.reset.modPort .kiosk fun q =>
      { q with inFlight := some { flight (.returnItem 1) with started := false } }
     s.grantCheck .kiosk (.returnItem 1) = .refuse .deskClosed []) ∧
    State.reset.grantCheck .uplink (.borrowerQuery 1) = .serve .plain := ⟨⟨.scrubber, rfl⟩, rfl, rfl, rfl⟩

/-- What SomeWaitingRequesterIsEligible asks of a state at a step's end. -/
structure StepEnds (s : State) (r : Requester) : Prop where
  engine : s.EngineLawful
  tables : s.TablesLawful
  settled : s.Settled
  dates : s.journal.waitingDates = []
  served : s.serves r = true

/-- SomeWaitingRequesterIsEligible: a scrub step with nothing waiting, and a sweep batch and a MARK_ALL step with the
Scrubber waiting, each the last but one. -/
theorem test_SomeWaitingRequesterIsEligible_steps :
    (let s := stocked .night .scrubber .plain
     StepEnds s .scrubber ∧ s.pick = none) ∧
    (let s := { stocked .night .sweep .plain with sweep := { state := .served, cursor := 12255, firstBatch := true } }
     StepEnds s .sweep ∧ s.sweep.cursor + 32 < 12288 ∧ s.journal.occupancy + 33 < 2304 ∧ s.pick = some .scrubber) ∧
    let s := servingPort .night .uplink .plain (.markAll 6079 0)
    StepEnds s .uplink ∧ s.portOp .uplink = some (.markAll 6079 0) ∧ 6079 + 64 < 6144 ∧
    (s.port .uplink).inFlight.any (·.started) = true ∧ s.pick = some .scrubber := by
  refine ⟨⟨⟨?_, stocked_lawful _ _ _, ⟨by decide, by decide⟩, rfl, rfl⟩, by decide⟩,
    ⟨⟨?_, ?_, ⟨by decide, by decide⟩, rfl, rfl⟩, by decide, by decide, by decide⟩,
    ⟨?_, servingPort_lawful _ _ _ _, ⟨by decide, by decide⟩, rfl, rfl⟩, rfl, by decide, rfl, by decide⟩
  · exact engine_serving rfl (fun p => by cases p <;> rfl) rfl rfl
  · exact engine_serving rfl (fun p => by cases p <;> rfl) rfl rfl
  · have h := stocked_lawful .night .sweep .plain
    exact ⟨h.borrowers, h.loans, h.items, h.policyChecks, h.policySum⟩
  · exact engine_serving rfl (fun p => by cases p <;> rfl) rfl rfl

/-- TodayNeverDecreases, NoDeskLoanOutsideHours: lawful clocks at both ends, and a desk's loan being served in OPEN. -/
theorem test_clock_hypotheses :
    lending.ClockLawful ∧ lending.DeskLoansLawful ∧
    State.ClockLawful { lending with clock := { lending.clock with today := 65535, time := 86399 } } :=
  ⟨⟨by decide, by decide, by decide⟩, ⟨fun _ _ _ _ _ => rfl, (by intro op h; cases h),
    (by intro p op h hb; rw [lending_ops h] at hb; cases hb)⟩, ⟨by decide, by decide, by decide⟩⟩

/-- ClosingEndsWhenItIsDue: a part in CLOSING before and after the drain's end, and one in OPEN. -/
theorem test_ClosingEndsWhenItIsDue_hypotheses :
    lending.Settled ∧
    State.Settled { lending with control := { lending.control with part := .closing } } ∧
    State.Settled { lending with control := { lending.control with part := .closing, drainEnded := true } } :=
  ⟨⟨by decide, by decide⟩, ⟨by decide, by decide⟩, ⟨by decide, by decide⟩⟩

/-! ## Encodings -/

/-- LabelsReadBothWays: check values 0 and 9, the narrowest wide elements and the widest gaps. -/
theorem test_LabelsReadBothWays_hypotheses :
    (let ds := [0, 0, 0, 0, 0, 0, 0, 0, 0, 0]
     ds.length = 10 ∧ (∀ d ∈ ds, d ≤ 9) ∧ checkValue ds = 0 ∧ 1 ≤ 10 ∧ 23 * 10 ≤ 10 * 23 ∧ 30 ≤ 3 * 10) ∧
    let ds := [9, 0, 0, 0, 0, 0, 0, 0, 0, 0]
    ds.length = 10 ∧ (∀ d ∈ ds, d ≤ 9) ∧ checkValue ds = 9 ∧ 1 ≤ 1 ∧ 23 * 1 ≤ 10 * 3 ∧ 0 ≤ 3 * 1 := by decide

/-- FramesAreReceived: an empty payload with another CRC, and the longest. -/
theorem test_FramesAreReceived_hypotheses :
    ([] : List Byte).length ≤ 1024 ∧ (List.replicate 1024 (0 : Byte)).length ≤ 1024 ∧
    (0#16 : Check) ≠ crc16 (bytesOf 2 0 ++ [1, 1] ++ []) := by decide +kernel

/-- PolicySectionsReadBack: the default contents of each section, and a class range list at its bounds. -/
theorem test_PolicySectionsReadBack_hypotheses :
    (∀ k ∈ [PolicySection.matrix, .classTerms, .categoryTerms, .deskTerms, .calendar, .classRanges],
      clampContents (defaultPolicyData.contents k) = defaultPolicyData.contents k ∧
      (defaultPolicyData.contents k).wellSized = true) ∧
    let c : SectionContents := .classRanges (List.replicate 16 { low := 0, high := 9999999999, itemClass := 15 })
    clampContents c = c ∧ c.wellSized = true := by decide +kernel

/-! ## Ports -/

/-- A state whose port has a request in flight. -/
def flying (p : Port) (op : Option EngineOp) : State :=
  (inPart .open).modPort p fun q => { q with inFlight := some { flight (.returnItem 1) with op := op } }

/-- FramesAreJudgedInOrder, clause by clause. -/
theorem test_FramesAreJudgedInOrder_hypotheses :
    ((flying .uplink none).port .uplink).inFlight.isSome = true ∧
    (((inPart .open).port .uplink).inFlight = none ∧ permitted .checkout .uplink = false) ∧
    (((inPart .starting).port .kiosk).inFlight = none ∧ permitted .checkout .kiosk = true ∧
      (inPart .starting).control.part = .starting ∧ ReqCode.checkout ≠ .status) ∧
    (((inPart .starting).port .kiosk).inFlight = none ∧ permitted .status .kiosk = true ∧
      ((inPart .starting).control.part = .starting → ReqCode.status = .status) ∧ lengthAgrees .status [0] = false) ∧
    (((inPart .night).port .uplink).inFlight = none ∧ permitted .loanLoad .uplink = true ∧
      ((inPart .night).control.part = .starting → ReqCode.loanLoad = .status) ∧ lengthAgrees .loanLoad [] = false) ∧
    (ReqCode.ofByte 0 = none ∧ ReqCode.ofByte 32 = none ∧ ReqCode.ofByte 255 = none) := by decide

/-- DamagedFramesAreCounted: a frame of four bytes with a wrong CRC, and a partial frame. -/
theorem test_DamagedFramesAreCounted_hypotheses :
    (State.reset.port .console).rx.run [0xC3, 0, 0, 1, 1, 0, 0] = (.hunt, [.bad]) ∧
    (State.reset.port .uplink).rx.run [0xC3] = (.collecting [], []) ∧
    (State.reset.port .kiosk).rx.run [0xC3, 4, 0] = (.collecting [4, 0], []) ∧ Port.kiosk ≠ .console := by
  decide +kernel

/-- A reply waiting to leave. -/
def reply1 : OutFrame := { tag := 1, code := .ok, request := 11, flags := {}, results := [], isReply := true }

/-- A Console port with that reply going out, its request in flight. -/
def replying : State := (flying .console none).modPort .console fun q => { q with outQ := [reply1] }

/-- A STATUS frame with tag 9 (R159, R167). -/
def statusFrame : List Byte := frameBytes 9 11 []

/-- FramesLeaveThePorts: a frame at the head, and transfers of one byte and of twelve with and without one; a STATUS
frame clocked in before, and one after, the last byte of a reply of 9 bytes, and with no frame waiting. -/
theorem test_FramesLeaveThePorts_hypotheses :
    ((State.reset.modPort .kiosk fun q => { q with outQ := [reply1] }).port .kiosk).outQ = [reply1] ∧
    (let s := State.reset.modPort .console fun q => { q with outQ := [reply1], sent := 1 }
     ([0] : List Byte).length = 0 + 1 ∧ s.consolePort.rx.run [0] = (.hunt, []) ∧ s.consolePort.outQ = [reply1]) ∧
    (List.replicate 12 (0 : Byte)).length = 11 + 1 ∧
    State.reset.consolePort.rx.run (List.replicate 12 0) = (.hunt, []) ∧ State.reset.consolePort.outQ = [] ∧
    (let s := replying
     s.consolePort.outQ = [reply1] ∧ s.consolePort.inFlight.isSome = true ∧ statusFrame.length = 6 + 1 ∧
     s.consolePort.sent + (6 + 1) ≤ reply1.bytes.length ∧
     s.consolePort.rx.run statusFrame = (.hunt, [.good 9 11 []])) ∧
    (let s := replying
     let before := statusFrame ++ [0, 0]
     s.consolePort.sent + before.length = reply1.bytes.length ∧ [(0 : Byte)].length = 0 + 1 ∧
     s.consolePort.rx.run before = (.hunt, [.good 9 11 []]) ∧ Receiver.hunt.run [0] = (.hunt, [])) ∧
    (let s := replying
     let before := List.replicate 7 0 ++ statusFrame.take 2
     s.consolePort.sent + before.length = reply1.bytes.length ∧
     s.consolePort.rx.run before = (.collecting [0], []) ∧ (statusFrame.drop 2).length = 4 + 1 ∧
     (Receiver.collecting [0]).run (statusFrame.drop 2) = (.hunt, [.good 9 11 []]) ∧
     ReqCode.ofByte 11 = some .status) ∧
    State.reset.consolePort.rx.run statusFrame = (.hunt, [.good 9 11 []]) := by
  decide +kernel

/-- The clauses of FramesLeaveThePorts that take a request's own next state: STATUS gives one. -/
theorem test_FramesLeaveThePorts_status (s : State) : ∃ t, exec (requestCommand .status .console 9 []) s = .next t :=
  ⟨_, rfl⟩

/-- R160, R161: a frame clocked in before the last byte of the reply is out is BUSY, and the reply's request then leaves
flight; one clocked in later is taken. -/
theorem test_console_transfer_both_ways :
    (let q := (onConsoleSelect (statusFrame ++ [0, 0, 0]) replying).consolePort
     q.outQ.map (·.code) = [.busy] ∧ q.inFlight = none) ∧
    (let q := (onConsoleSelect (List.replicate 4 0 ++ statusFrame) replying).consolePort
     q.outQ.map (·.code) = [.ok] ∧ q.inFlight.map (·.tag) = some 9) := by decide +kernel

/-- BreaksEmptyThePort: a request at the engine, one done with, and none. -/
theorem test_BreaksEmptyThePort_hypotheses :
    (∃ fl, ((flying .uplink (some (.markAll 0 0))).port .uplink).inFlight = some fl ∧ fl.op.isSome = true) ∧
    (∃ fl, ((flying .console none).port .console).inFlight = some fl ∧ fl.op.isSome = false) ∧
    (State.reset.port .kiosk).inFlight = none := ⟨⟨_, rfl, rfl⟩, ⟨_, rfl, rfl⟩, rfl⟩

/-- A port that takes a request: every port after reset, and in OPEN and CLOSING. -/
theorem test_takes (p : Port) : State.reset.takes p ∧ (inPart .open).takes p ∧ (inPart .closing).takes p := by
  cases p <;> exact ⟨⟨rfl, rfl⟩, ⟨rfl, rfl⟩, rfl, rfl⟩

/-- NoticesAreTakenInOrder: a notice, and none. -/
theorem test_NoticesAreTakenInOrder_hypotheses :
    (State.reset.takes .kiosk ∧ (State.reset.port .kiosk).notices = [.partState .night]) ∧
    let s := State.reset.modPort .kiosk fun q => { q with notices := [] }
    s.takes .kiosk ∧ (s.port .kiosk).notices = [] := ⟨⟨(test_takes .kiosk).1, rfl⟩, ⟨rfl, rfl⟩, rfl⟩

/-- StatusClearsItsOwnCopies: in STARTING and in NIGHT. -/
theorem test_StatusClearsItsOwnCopies_hypotheses :
    ((inPart .starting).port .uplink).inFlight = none ∧ ((inPart .retaining).port .kiosk).inFlight = none ∧
    (State.reset.port .console).inFlight = none := by decide

/-! ## Wands -/

/-- A part in OPEN whose Console wand is as given. -/
def wanding (f : Wand → Wand) : State := (inPart .open).modWand .console fun w => f { w with state := .active }

/-- TransitionsFrameAScan: an idle wand, the three phases, and both ends of the list. -/
theorem test_TransitionsFrameAScan_hypotheses :
    ((State.reset.desk .kiosk).lines.wand ≠ .dark ∧ (State.reset.desk .kiosk).wand.state ≠ .active) ∧
    (let s := wanding id
     (s.desk .console).lines.wand ≠ .dark ∧ (s.desk .console).wand.state = .active ∧
     (s.desk .console).wand.phase = .quietWait ∧ (s.desk .console).wand.line = .light) ∧
    (let s := wanding fun w => { w with phase := .ready }
     (s.desk .console).lines.wand ≠ .dark ∧ (s.desk .console).wand.state = .active ∧
     (s.desk .console).wand.phase = .ready) ∧
    (let s := wanding fun w => { w with phase := .scanning, elements := List.replicate 83 1, count := 83 }
     (s.desk .console).lines.wand ≠ .dark ∧ (s.desk .console).wand.state = .active ∧
     (s.desk .console).wand.phase = .scanning ∧ (s.desk .console).wand.elements.length = 83) ∧
    let s := wanding fun w => { w with phase := .scanning, elements := List.replicate 84 1, count := 255 }
    (s.desk .console).lines.wand ≠ .dark ∧ (s.desk .console).wand.state = .active ∧
    (s.desk .console).wand.phase = .scanning ∧ (s.desk .console).wand.elements.length = 84 := by decide +kernel

/-- MisreadsAreCountedAlone: a scan with no element, and a wand at rest on dark. -/
theorem test_MisreadsAreCountedAlone_hypotheses :
    (let s := wanding fun w => { w with phase := .scanning }
     (s.desk .console).wand.state = .active ∧ (s.desk .console).wand.phase = .scanning ∧
     (s.desk .console).wand.line = .light ∧
     decodeScan (s.desk .console).wand.count (s.desk .console).wand.elements =
      .misread { cause := .length, position := none }) ∧
    let s := wanding fun w => { w with phase := .scanning, line := .dark }
    (s.desk .console).wand.state = .active ∧ (s.desk .console).wand.phase = .scanning ∧
    (s.desk .console).wand.line = .dark := by decide +kernel

/-- A part in OPEN whose Console wand holds the scan of a label. -/
def scanned (kind : LabelKind) (f : DeskSide → DeskSide) : State :=
  (wanding fun w => { w with
    phase := .scanning
    count := 83
    elements := printedLabel kind [0, 0, 4, 1, 7, 3, 9, 0, 2, 5] 40 120 40 }).modDesk .console f

/-- What ValidLabelsReachTheDesk asks of every state. -/
def scannedWell (kind : LabelKind) (s : State) : Prop :=
  (s.desk .console).wand.state = .active ∧ (s.desk .console).wand.phase = .scanning ∧
  (s.desk .console).wand.line = .light ∧ s.control.part = .open ∧
  decodeScan (s.desk .console).wand.count (s.desk .console).wand.elements = .label kind 41739025 .forward

theorem decode_printed (kind : LabelKind) :
    decodeScan 83 (printedLabel kind [0, 0, 4, 1, 7, 3, 9, 0, 2, 5] 40 120 40) = .label kind 41739025 .forward := by
  cases kind <;> decide +kernel

theorem scannedWell_scanned (kind : LabelKind) (ctx : DeskContext) :
    scannedWell kind (scanned kind fun x => { x with ctx := ctx }) := ⟨rfl, rfl, rfl, rfl, decode_printed kind⟩

/-- ValidLabelsReachTheDesk: a repeat at the last millisecond of the window and one past it. -/
theorem test_ValidLabelsReachTheDesk_hypotheses :
    (let s := scanned .item fun x =>
      { x with wand := { x.wand with lastAccepted := some (.item, 41739025), doubleScan := 1499 } }
     scannedWell .item s ∧ (s.terms .console).doubleScan ≠ 0 ∧
     (s.desk .console).wand.lastAccepted = some (.item, 41739025) ∧
     (s.desk .console).wand.doubleScan < (s.terms .console).doubleScan) ∧
    let s := scanned .item fun x =>
      { x with wand := { x.wand with lastAccepted := some (.item, 41739025), doubleScan := 1500 } }
    scannedWell .item s ∧ ¬(s.desk .console).wand.doubleScan < (s.terms .console).doubleScan :=
  ⟨⟨⟨rfl, rfl, rfl, rfl, decode_printed .item⟩, by decide, rfl, by decide⟩,
   ⟨rfl, rfl, rfl, rfl, decode_printed .item⟩, by decide⟩

/-- ValidLabelsReachTheDesk: an item at an empty queue, at 7 labels and at 8; a borrower at a desk with none bound, with the
same bound and with another. -/
theorem test_ValidLabelsReachTheDesk_desks :
    (∀ n ∈ [0, 7, 8], ∃ s, scannedWell .item s ∧ (s.desk .console).ctx.queue.length = n) ∧
    (∃ s, scannedWell .borrower s ∧ (s.terms .console).autoBind = true ∧ (s.desk .console).ctx.bound = none) ∧
    ∀ n ∈ [41739025, 1], ∃ s, scannedWell .borrower s ∧ (s.terms .console).autoBind = true ∧
      (s.desk .console).ctx.bound = some { borrower := n, time := 0 } := by
  refine ⟨fun n _ => ⟨_, scannedWell_scanned .item
      { DeskContext.start with queue := List.replicate n { kind := .item, number := 1, direction := .forward, time := 0 } },
      ?_⟩, ⟨_, scannedWell_scanned .borrower DeskContext.start, rfl, rfl⟩,
    fun n _ => ⟨_, scannedWell_scanned .borrower
      { DeskContext.start with bound := some { borrower := n, time := 0 } }, rfl, rfl⟩⟩
  exact List.length_replicate

/-- ValidLabelsReachTheDesk, CLOSING: an item, and a borrower with auto-bind ON, at a desk with nobody bound. -/
theorem test_ValidLabelsReachTheDesk_closing (kind : LabelKind) :
    let s := { scanned kind id with control := { State.reset.control with part := .closing } }
    (s.desk .console).wand.state = .active ∧ (s.desk .console).wand.phase = .scanning ∧
    (s.desk .console).wand.line = .light ∧ s.control.part = .closing ∧
    decodeScan (s.desk .console).wand.count (s.desk .console).wand.elements = .label kind 41739025 .forward ∧
    (s.terms .console).autoBind = true ∧ (s.desk .console).ctx.bound = none :=
  ⟨rfl, rfl, rfl, rfl, decode_printed kind, rfl, rfl⟩

/-- PresenceMovesTheWand: an assertion, a release that unbinds, and a hold timer running. -/
theorem test_PresenceMovesTheWand_hypotheses :
    (State.reset.desk .kiosk).lines.presence ≠ .asserted ∧
    (let s := (inPart .open).modDesk .kiosk fun x =>
      { x with
        lines := { x.lines with presence := .asserted }
        ctx := { x.ctx with bound := some { borrower := 1, time := 0 } } }
     (s.desk .kiosk).lines.presence ≠ .released ∧ (s.terms .kiosk).unbindOnLeave = true ∧
     (s.desk .kiosk).ctx.bound.isSome = true ∧ (s.terms .kiosk).wandMode = .presenceHold) ∧
    ((wanding fun w => { w with hold := some 1 }).desk .console).wand.hold.isSome = true := by decide

/-! ## Desks -/

/-- A part in OPEN whose Console desk is as given. -/
def desked (f : DeskSide → DeskSide) : State := (inPart .open).modDesk .console f

/-- A desk with a borrower bound, an open slip of one line and `n` slips in its spool. -/
def slipped (n : Nat) (x : DeskSide) : DeskSide :=
  { x with
    ctx :=
      { x.ctx with
        bound := some { borrower := 1, time := 0 }
        idle := some 1
        openSlip := some
          { borrower := 1, day := 0, time := 0, lines := [{ item := 1, dueDay := 0, renewed := false }] }
        gather := some 1 }
    spooler :=
      { x.spooler with
        state := .idle, spool := List.replicate n { desk := .console, day := 0, time := 0, body := .payment 1 0 } } }

/-- DeskTimersUnbindAndCut, CutsOfferTheSlip: timers running, no open slip, and one at a spool of 0, 15 and 16 slips. -/
theorem test_DeskTimers_Cuts_hypotheses :
    (let s := desked (slipped 0)
     (s.desk .console).ctx.bound = some { borrower := 1, time := 0 } ∧ (s.desk .console).ctx.idle.isSome = true ∧
     (s.desk .console).ctx.gather.isSome = true ∧ (s.desk .console).spooler.state = .idle) ∧
    (State.reset.desk .kiosk).ctx.openSlip = none ∧
    ∀ n ∈ [0, 15, 16], ((desked (slipped n)).desk .console).ctx.openSlip.isSome = true ∧
      ((desked (slipped n)).desk .console).spooler.spool.length = n := by decide

/-- A label report. -/
def report (kind : LabelKind) : LabelReport := { kind, number := 41739025, direction := .forward, time := 0 }

/-- ScanTakeTakesTheOldest, CutAndUnbindOnRequest: a label queued, none with one taken before, none at all; a desk with a
borrower bound and one without. -/
theorem test_ScanTake_Unbind_hypotheses :
    portDesk .console = some .console ∧
    (let s := desked fun x => { x with ctx := { x.ctx with queue := [report .item] } }
     (s.port .console).inFlight = none ∧ s.control.part.running = true ∧
     (s.desk .console).ctx.queue = [report .item]) ∧
    (let s := desked fun x => { x with ctx := { x.ctx with lastTaken := some (report .item) } }
     (s.port .console).inFlight = none ∧ s.control.part.running = true ∧ (s.desk .console).ctx.queue = [] ∧
     (s.desk .console).ctx.lastTaken = some (report .item)) ∧
    ((State.reset.desk .console).ctx.queue = [] ∧ (State.reset.desk .console).ctx.lastTaken = none ∧
     (State.reset.desk .console).ctx.bound = none) ∧
    let s := desked (slipped 16)
    (s.port .console).inFlight = none ∧ s.control.part.running = true ∧
    (s.desk .console).ctx.bound = some { borrower := 1, time := 0 } := by decide

/-! ## Acceptance at the engine -/

/-- CirculationRequestsWait: identifiers given, "current", and at the end of their range, with the engine serving; and the
Uplink port's query. -/
theorem test_CirculationRequestsWait_hypotheses :
    (inPart .open).takes .console ∧ (inPart .closing).takes .kiosk ∧ (inPart .open).engine.serving.isSome = true ∧
    (inPart .open).names .console 9999999999 9999999999 ∧ (desked (slipped 0)).names .console 0xFFFFFFFFFF 1 ∧
    (desked (slipped 0)).takes .console ∧ (desked (slipped 0)).engine.serving.isSome = true ∧
    (inPart .closing).control.part.desksServe = true ∧
    (State.reset.takes .uplink ∧ State.reset.engine.serving.isSome = true) :=
  ⟨(test_takes .console).2.1, (test_takes .kiosk).2.2, rfl, .inl ⟨rfl, by decide⟩, .inr ⟨rfl, _, rfl⟩, ⟨rfl, rfl⟩, rfl,
   rfl, (test_takes .uplink).1, rfl⟩

/-- An Uplink or desk request of the given code, length and first fields is one that CirculationRequestsWait refuses. -/
def refusable (code : ReqCode) (p : Port) (payload : List Byte) : Bool := permitted code p && lengthAgrees code payload

/-- CirculationRequestsWait, the refusals: fields one past their ranges at each place, an override at the Kiosk, "current"
with nobody bound, in OPEN, CLOSING and NIGHT; and "current" at the Uplink port. -/
theorem test_CirculationRequestsWait_refusals :
    (∀ v ∈ [10000000000, 0xFFFFFFFFFE], 9999999999 < v ∧ v ≠ 0xFFFFFFFFFF ∧ valueOf ((bytesOf 5 v).take 5) = v ∧
      refusable .returnItem .kiosk (bytesOf 5 v) = true ∧ refusable .borrowerQuery .uplink (bytesOf 5 v) = true ∧
      refusable .checkout .console (bytesOf 5 v ++ bytesOf 5 0 ++ [0]) = true ∧
      refusable .renew .kiosk (bytesOf 5 0 ++ bytesOf 5 v ++ [1]) = true) ∧
    refusable .checkout .kiosk (bytesOf 5 0 ++ bytesOf 5 0xFFFFFFFFFF ++ [2]) = true ∧
    refusable .checkout .kiosk (bytesOf 5 9999999999 ++ bytesOf 5 9999999999 ++ [1]) = true ∧
    ((inPart .open).desk .kiosk).ctx.bound = none ∧
    refusable .renew .console (bytesOf 5 0xFFFFFFFFFF ++ bytesOf 5 1 ++ [1]) = true ∧
    (∀ amount ∈ [0, 1, 999999, 1000000],
      refusable .finePay .console (bytesOf 5 0xFFFFFFFFFF ++ bytesOf 4 amount) = true ∧
      valueOf (((bytesOf 5 0xFFFFFFFFFF ++ bytesOf 4 amount).drop 5).take 4) = amount) ∧
    refusable .borrowerAdd .console (bytesOf 5 9999999999 ++ [8]) = true ∧
    refusable .itemFlagSet .console (bytesOf 5 1 ++ [2, 0]) = true ∧
    refusable .itemFlagSet .console (bytesOf 5 1 ++ [1, 2]) = true ∧
    refusable .loansList .kiosk (bytesOf 5 0xFFFFFFFFFF ++ [0]) = true ∧
    refusable .borrowerQuery .uplink (bytesOf 5 0xFFFFFFFFFF) = true ∧ (inPart .open).control.part = .open ∧
    (inPart .closing).control.part = .closing ∧ (inPart .night).control.part = .night := by decide +kernel

/-- ItemsFromTheWandAreTaken: an item label, a borrower label, and none. -/
theorem test_ItemsFromTheWandAreTaken_hypotheses :
    (∀ kind, let s := desked fun x => { x with ctx := { x.ctx with queue := [report kind] } }
      s.takes .console ∧ s.engine.serving.isSome = true ∧ s.names .console 1 1 ∧ s.control.part = .open ∧
      (s.desk .console).ctx.queue = [report kind] ∧ (report kind).kind = kind) ∧
    (inPart .open).takes .console ∧ (inPart .open).engine.serving.isSome = true ∧ (inPart .open).names .console 1 1 ∧
    (inPart .open).control.part = .open ∧ ((inPart .open).desk .console).ctx.queue = [] :=
  ⟨fun _ => ⟨⟨rfl, rfl⟩, rfl, .inl ⟨rfl, by decide⟩, rfl, rfl, rfl⟩, ⟨rfl, rfl⟩, rfl, .inl ⟨rfl, by decide⟩, rfl, rfl⟩

/-- ItemsFromTheWandAreTaken: RETURN in CLOSING, with a label and without; the Console's override. -/
theorem test_ItemsFromTheWandAreTaken_closing :
    (∀ queue : List LabelReport,
      let s := (inPart .closing).modDesk .kiosk fun x => { x with ctx := { x.ctx with queue := queue } }
      s.takes .kiosk ∧ s.engine.serving.isSome = true ∧ s.names .kiosk 1 1 ∧ s.control.part = .closing ∧
      (s.desk .kiosk).ctx.queue = queue) ∧
    ∀ o : Bool, o = false ∨ Port.console = .console :=
  ⟨fun _ => ⟨⟨rfl, rfl⟩, rfl, .inl ⟨rfl, by decide⟩, rfl, rfl⟩, fun _ => .inr rfl⟩

/-- DownloadsWait: a section each port may load, one with every value past its range; record counts at both ends; NIGHT and
OPEN. -/
theorem test_DownloadsWait_hypotheses :
    ((inPart .open).takes .console ∧ (inPart .open).engine.serving.isSome = true ∧ Port.console ≠ .kiosk ∧
      (let c : SectionContents := .calendar { worked with year := 65535, month := 255, day := 255, weekday0 := 255 }
       c.name = .calendar ∧ c.fits = true ∧ c.wellSized = true ∧ clampContents c ≠ c)) ∧
    ((defaultPolicyData.contents .matrix).fits = true ∧ (defaultPolicyData.contents .matrix).wellSized = true) ∧
    (State.reset.takes .uplink ∧ State.reset.engine.serving.isSome = true ∧ State.reset.control.part = .night) ∧
    ((inPart .open).takes .uplink ∧ (inPart .open).control.part ≠ .night ∧ lengthAgrees .tableClear [3] = true ∧
      lengthAgrees .markAll [] = true) ∧
    (List.replicate 768 (0 : Byte)).length = 32 * 24 ∧ (List.replicate 416 (0 : Byte)).length = 32 * 13 ∧
    (List.replicate 672 (0 : Byte)).length = 24 * 28 ∧ (List.replicate 700 (0 : Byte)).length = 25 * 28 ∧
    (List.replicate 792 (0 : Byte)).length = 33 * 24 ∧ (List.replicate 429 (0 : Byte)).length = 33 * 13 :=
  ⟨⟨⟨rfl, rfl⟩, rfl, by decide, rfl, by decide +kernel, rfl, by decide +kernel⟩, ⟨by decide +kernel, by decide +kernel⟩,
   ⟨⟨rfl, rfl⟩, rfl, rfl⟩, ⟨⟨rfl, rfl⟩, by decide, rfl, rfl⟩,
   List.length_replicate, List.length_replicate, List.length_replicate, List.length_replicate, List.length_replicate,
   List.length_replicate⟩

/-- DownloadsWait, the refusals of a POLICY_LOAD: the section 6; the matrix at the Console; a wand mode of 4 at the first
desk and an overflow mode of 2 at the second; 17 class ranges, and one item number past the range. -/
theorem test_DownloadsWait_refusals :
    (State.reset.takes .console ∧ State.reset.takes .uplink) ∧
    lengthAgrees .policyLoad (bytesOf 1 6 ++ []) = true ∧
    lengthAgrees .policyLoad (bytesOf 1 0 ++ List.replicate 384 0) = true ∧
    lengthAgrees .policyLoad (bytesOf 1 3 ++ (4 :: List.replicate 35 0)) = true ∧
    (let c := List.replicate 19 0 ++ (2 :: List.replicate 16 (0 : Byte))
     lengthAgrees .policyLoad (bytesOf 1 3 ++ c) = true ∧ valueOf ((c.drop 11).take 1) = 0 ∧
     valueOf ((c.drop (12 + 0 + 7)).take 1) = 2) ∧
    lengthAgrees .policyLoad (bytesOf 1 5 ++ (17 :: List.replicate 187 0)) = true ∧
    (let c := [1] ++ bytesOf 5 0 ++ bytesOf 5 10000000000 ++ [0]
     lengthAgrees .policyLoad (bytesOf 1 5 ++ c) = true ∧ valueOf ((c.drop (6 + 11 * 0)).take 5) = 10000000000) :=
  ⟨⟨(test_takes .console).1, (test_takes .uplink).1⟩, by decide +kernel⟩

/-! ## Printers -/

/-- A slip. -/
def slip1 : Slip := { desk := .console, day := 0, time := 0, body := .payment 1 0 }

/-- A part in OPEN whose Console printer is as given. -/
def printing (st : PrinterState) (spool : List Slip) (busy paperOut : Bool) : State :=
  desked fun x =>
    { x with
      lines := { x.lines with busy := busy, paperOut := paperOut }
      spooler := { x.spooler with state := st, spool := spool, text := [[65]], waitTimer := some 1 } }

theorem printing_settled (st : PrinterState) (spool : List Slip) (busy paperOut : Bool) :
    (printing st spool busy paperOut).Settled := ⟨(by intro h; cases h), (by intro h; cases h)⟩

/-- PrinterResumeRestartsTheSlip: a printer in WAITING, one STALLED with paper out, one STALLED with paper. -/
theorem test_PrinterResumeRestartsTheSlip_hypotheses :
    (let s := printing .waiting [slip1] true false
     s.takes .console ∧ s.Settled ∧ (s.desk .console).spooler.state ≠ .stalled) ∧
    (let s := printing .stalled [slip1] false true
     s.takes .console ∧ s.Settled ∧ (s.desk .console).spooler.state = .stalled ∧
     (s.desk .console).lines.paperOut = true) ∧
    let s := printing .stalled [slip1] true false
    s.takes .console ∧ s.Settled ∧ (s.desk .console).spooler.state = .stalled ∧
    (s.desk .console).lines.paperOut = false ∧ (s.desk .console).spooler.spool = [slip1] :=
  ⟨⟨⟨rfl, rfl⟩, printing_settled .waiting _ _ _, by decide⟩,
   ⟨⟨rfl, rfl⟩, printing_settled .stalled _ _ _, rfl, rfl⟩,
   ⟨rfl, rfl⟩, printing_settled .stalled _ _ _, rfl, rfl, rfl⟩

/-- A printer in WAITING at a print position, after a strobe or not. -/
def waitingAt (strobed : Bool) (posLine : Nat) : State :=
  (printing .waiting [slip1] true false).modSpooler .console fun x => { x with strobed := strobed, posLine := posLine }

/-- PrintersHandshake: a held character, a strobed one within a line, the cut code, a wait, and gaps on an empty spool and
on another slip. -/
theorem test_PrintersHandshake_hypotheses :
    (∀ strobed ∈ [false, true], ∀ n ∈ [0, 1],
      let s := waitingAt strobed n
      (s.desk .console).lines.paperOut = false ∧ (s.desk .console).lines.busy = true ∧
      (s.desk .console).spooler.state = .waiting ∧ (s.desk .console).spooler.strobed = strobed ∧
      (s.desk .console).spooler.posLine = n ∧ (s.desk .console).spooler.text = [[65]] ∧
      (s.desk .console).spooler.waitTimer.isSome = true) ∧
    (∀ spool ∈ [[], [slip1]],
      let s := printing .gap spool false false
      (s.desk .console).lines.paperOut = false ∧ (s.desk .console).spooler.state = .gap ∧
      (s.desk .console).spooler.spool = spool) ∧
    (printing .gap [slip1] false false).Settled := ⟨by decide, by decide, printing_settled .gap _ _ _⟩

/-- PrintersHandshake, paper out: a held character, a strobed one within a line and at the cut code, and a gap. -/
theorem test_PrintersHandshake_paperOut :
    (∀ strobed ∈ [false, true], ∀ n ∈ [0, 1],
      let s := (waitingAt strobed n).modLines .console fun x => { x with paperOut := true }
      (s.desk .console).lines.paperOut = true ∧ (s.desk .console).lines.busy = true ∧
      (s.desk .console).spooler.state = .waiting ∧ (s.desk .console).spooler.strobed = strobed ∧
      (s.desk .console).spooler.posLine = n ∧ (s.desk .console).spooler.waitTimer.isSome = true) ∧
    (let s := printing .gap [] false true
     (s.desk .console).lines.paperOut = true ∧ (s.desk .console).spooler.state = .gap) ∧
    (printing .gap [] false true).Settled := ⟨by decide, by decide, printing_settled .gap _ _ _⟩

/-- PaperOutStopsThePrinter: paper out at an IDLE printer and at a WAITING one; its release in WAITING, and in NO_PAPER with
an empty spool and with a slip. -/
theorem test_PaperOutStopsThePrinter_hypotheses :
    (∀ st ∈ [PrinterState.idle, .waiting], ((printing st [slip1] false false).desk .console).lines.paperOut = false) ∧
    (let s := printing .waiting [slip1] true true
     (s.desk .console).lines.paperOut = true ∧ (s.desk .console).spooler.state ≠ .noPaper) ∧
    (∀ spool ∈ [[], [slip1]],
      let s := printing .noPaper spool false true
      (s.desk .console).lines.paperOut = true ∧ (s.desk .console).spooler.state = .noPaper ∧
      (s.desk .console).spooler.spool = spool) ∧
    (printing .noPaper [slip1] false true).Settled :=
  ⟨by decide, by decide, by decide, printing_settled .noPaper _ _ _⟩

/-! ## The journal requests -/

/-- A state whose journal has delivered its one entry or not, with the given window. -/
def journaling (cursor : Seq) (window : Nat) : State :=
  { State.reset with journal := { State.reset.journal with cursor := cursor, window := window } }

theorem journaling_lawful (cursor : Seq) (h : (cursor - 1).toNat ≤ 1) (window : Nat) :
    (journaling cursor window).journal.Lawful :=
  have one : (journaling cursor window).journal.entries.length = 1 := rfl
  have occ : (journaling cursor window).journal.occupancy = 1 := (by decide : (2#32 - 1#32 : Seq).toNat = 1)
  ⟨by rw [one, occ], by rw [occ]; decide, by rw [occ]; exact h, fun i hi => by
    have : i = 0 := by omega
    subst this; rfl, (by decide : 0 ≤ 4)⟩

/-- JournalRequestsMoveTheCursor: a window of 0, an armed window with an entry undelivered, and an entry delivered. -/
theorem test_JournalRequestsMoveTheCursor_hypotheses :
    (State.reset.takes .uplink ∧ State.reset.journal.window = 0) ∧
    ((journaling 1 1).takes .uplink ∧ (journaling 1 1).journal.Lawful ∧ 0 < (journaling 1 1).journal.window ∧
      (journaling 1 1).journal.entries.length = (journaling 1 1).journal.occupancy ∧
      (journaling 1 1).journal.delivered ≤ (journaling 1 1).journal.occupancy) ∧
    ((journaling 2 0).takes .uplink ∧ (journaling 2 0).journal.Lawful ∧ 0 < (journaling 2 0).journal.delivered ∧
      ∃ e, (journaling 2 0).journal.entries[0]? = some e) :=
  ⟨⟨(test_takes .uplink).1, rfl⟩, ⟨⟨rfl, rfl⟩, journaling_lawful 1 (by decide) 1, by decide, rfl, by decide⟩,
   ⟨rfl, rfl⟩, journaling_lawful 2 (by decide) 0, by decide, _, rfl⟩

/-- JournalRequestsMoveTheCursor, the releases that remove nothing: with no entry delivered, every sequence; behind the head
by 1 and by 2^31, ahead of it by 2^31 - 1, and the head itself. -/
theorem test_JournalRequestsMoveTheCursor_releases :
    (State.reset.takes .uplink ∧ State.reset.journal.delivered = 0 ∧ State.reset.journal.head = 1#32) ∧
    (1#32 - 0#32).toNat = 1 ∧ (1#32 - (1#32 - 2147483648#32)).toNat = 2147483648 ∧
    (1#32 - (1#32 + 2147483647#32)).toNat = 2147483649 ∧ (1#32 - 1#32).toNat = 0 :=
  ⟨⟨(test_takes .uplink).1, rfl, rfl⟩, by decide⟩

/-- A journal of `n` entries, none delivered. -/
def filled (n : Nat) : Journal where
  entries := (List.range n).map fun i => { sequence := BitVec.ofNat 32 i, fields := restartDraft, check := 0 }
  head := 0
  cursor := 0
  tail := BitVec.ofNat 32 n
  window := 0
  waitingDates := []

theorem filled_occupancy {n : Nat} (h : n ≤ 3072) : (filled n).occupancy = n := by
  show (BitVec.ofNat 32 n - 0#32).toNat = n
  rw [BitVec.sub_zero, BitVec.toNat_ofNat]; omega

theorem filled_lawful {n : Nat} (h : n ≤ 3072) (dates : List DateEntry) (d : dates.length ≤ 4) :
    Journal.Lawful { filled n with waitingDates := dates } := by
  have occ : Journal.occupancy { filled n with waitingDates := dates } = n := filled_occupancy h
  refine ⟨?_, ?_, ?_, fun i hi => ?_, d⟩
  · rw [occ]; simp [filled]
  · rw [occ]; exact h
  · show (0#32 - 0#32 : Seq).toNat ≤ _
    simp
  · simp [filled]

/-! ## The clock and the desk hours -/

/-- A state with the date set to day 225 and the given part state and time. -/
def dated (st : PartState) (today time : Nat) : State :=
  { inPart st with clock := { State.reset.clock with today := today, time := time, dateUnset := false } }

/-- DateSetTakesTheDate: the times past the end of a day, a day before today, days 400 and 401 past it, the top of the
range, the date unset, and four entries waiting. -/
theorem test_DateSetTakesTheDate_hypotheses :
    ((dated .open 225 0).takes .uplink ∧ 65535 ≤ 65535 ∧ ∀ time ∈ [86400, 4294967295], 86399 < time ∧ time < 4294967296) ∧
    ((dated .open 225 0).takes .uplink ∧ (dated .open 225 0).clock.dateUnset = false ∧
      224 < (dated .open 225 0).clock.today) ∧
    ((dated .open 225 0).clock.today ≤ 626 ∧ min ((dated .open 225 0).clock.today + 400) 65535 < 626 ∧
      625 ≤ min ((dated .open 225 0).clock.today + 400) 65535) ∧
    65535 ≤ min ((dated .night 65535 0).clock.today + 400) 65535 ∧
    (State.reset.takes .console ∧ State.reset.clock.dateUnset = true ∧ State.reset.engine.serving.isSome = true ∧
      State.reset.sweep.state = .idle ∧ State.reset.journal.waitingDates.length < 4) ∧
    ((stocked .open .sweep .plain).takes .console ∧ (stocked .open .sweep .plain).sweep.state ≠ .idle ∧
      (stocked .open .sweep .plain).engine.serving.isSome = true) ∧
    let s := { dated .closing 225 0 with
      journal := { State.reset.journal with waitingDates := List.replicate 4 { day := 0, time := 0 } } }
    s.takes .console ∧ 4 ≤ s.journal.waitingDates.length ∧ s.control.part = .closing :=
  ⟨⟨⟨rfl, rfl⟩, by decide, by decide⟩, ⟨⟨rfl, rfl⟩, rfl, by decide⟩, by decide, by decide, ⟨(test_takes .console).1, rfl, rfl, rfl, by decide⟩,
   ⟨⟨rfl, rfl⟩, by decide, rfl⟩, ⟨rfl, rfl⟩, by decide, rfl⟩

/-- DateSetTakesTheDate, the flush: four entries waiting just below each mark of the journal, at the critical mark and at a
full journal, with the sweep waiting past its first batch. -/
theorem test_DateSetTakesTheDate_flush :
    ∀ n ∈ [0, 1535, 2303, 2943, 2944, 3072],
      let dates := List.replicate 4 ({ day := 225, time := 0 } : DateEntry)
      let s := { servingPort .open .kiosk .plain (.borrowerQuery 0) with
        journal := { filled n with waitingDates := dates }, sweep := { state := .requesting, cursor := 32, firstBatch := false } }
      s.served = some (servingOf .kiosk .plain, .kiosk, .borrowerQuery 0) ∧ s.control.part = .open ∧ s.journal.Lawful ∧
      s.journal.occupancy = n := by
  intro n hn
  have h : n ≤ 3072 := by
    simp only [List.mem_cons, List.not_mem_nil, or_false] at hn; omega
  exact ⟨rfl, rfl, filled_lawful h _ (by decide), filled_occupancy h⟩

/-- RequestsOpenAndCloseTheDesk: the three part states, with something left to print, with nothing, and with both desks'
cuts losing their slip. -/
theorem test_RequestsOpenAndCloseTheDesk_hypotheses :
    ((lending.port .uplink).inFlight = none ∧ lending.control.part = .open ∧ lending.control.openingPending = false ∧
      ∀ d ∈ [Desk.console, .kiosk], lending.cutLosses d = 1) ∧
    (∀ st ∈ [PartState.open, .closing, .night], ((inPart st).port .console).inFlight = none ∧
      (inPart st).control.part.running = true) ∧
    ((desked (slipped 1)).control.part = .open ∧ ((desked (slipped 1)).desk .console).spooler.spool ≠ []) ∧
    let s := (desked fun x => { x with spooler := { x.spooler with state := .idle } }).modSpooler .kiosk fun x =>
      { x with state := .idle }
    (∀ d ∈ [Desk.console, .kiosk], (s.desk d).spooler.spool = [] ∧ (s.desk d).ctx.openSlip = none ∧
      (s.desk d).spooler.state = .idle) ∧ s.deskRequest = false ∧ s.control.openingPending = false := by decide

/-- RequestsOpenAndCloseTheDesk, ClockEventsMoveTheDay: nothing to print and both printers IDLE with a desk request left, and
with an empty spool and a printer in GAP. -/
theorem test_ClosesInto_waits :
    (let s := { servingPort .open .console .plain (.borrowerQuery 0) with
       console := { DeskSide.atReset with spooler := Spooler.start.idled }
       kiosk := { DeskSide.atReset with spooler := Spooler.start.idled } }
     (∀ d ∈ [Desk.console, .kiosk], (s.desk d).spooler.spool = [] ∧ (s.desk d).ctx.openSlip = none ∧
       (s.desk d).spooler.state = .idle) ∧ s.deskRequest = true ∧ s.control.openingPending = false ∧ s.takes .uplink) ∧
    let s := printing .gap [] false false
    (s.desk .console).spooler.spool = [] ∧ (s.desk .console).spooler.state ≠ .idle ∧ s.control.part = .open ∧
    s.control.openingPending = false ∧ s.takes .console :=
  ⟨⟨by decide, rfl, rfl, rfl, rfl⟩, by decide, by decide, rfl, rfl, rfl, rfl⟩

/-- The last second of a day with the given desk hours. -/
def lastSecondOf (st : PartState) (today opening closing : Nat) : State :=
  let s := dated st today 86399
  { s with policy.data.desks.opening := opening, policy.data.desks.closing := closing }

/-- ClockEventsMoveTheDay, the rollover: every part state, on day 224 and on the last day, with an opening and a closing hour
of 0 and not; day 225 and day 65,535 are open. -/
theorem test_ClockEventsMoveTheDay_rollover :
    (∀ st ∈ [PartState.open, .closing, .night, .starting, .retaining], ∀ today ∈ [224, 65535], ∀ a ∈ [0, 1], ∀ b ∈ [0, 1],
      let s := lastSecondOf st today a b
      s.clock.time = 86399 ∧ s.clock.dateUnset = false ∧ s.clock.today = today ∧ s.engine.serving.isSome = true ∧
      s.control.part = st ∧ s.control.openingPending = false ∧ s.policy.data.desks.opening = a ∧
      s.policy.data.desks.closing = b) ∧
    (lastSecondOf .night 224 0 1).policy.data.calendar.isOpen 225 = true ∧
    (lastSecondOf .night 65535 0 1).policy.data.calendar.isOpen 65535 = true := by decide +kernel

/-- ClockEventsMoveTheDay, the drain: an expiry with a desk request left, at spools of 16 slips and at printers in STALLED; and
the end of the last desk request after it, with the slips of the open slips lost at one desk and spooled at the other. -/
theorem test_ClockEventsMoveTheDay_drain :
    (let s := { lending with
      control := { (inPart .closing).control with drainTimer := some 1, drainEnded := false }
      kiosk := { fullDesk with spooler := { fullDesk.spooler with state := .stalled } } }
     s.control.part = .closing ∧ s.control.drainEnded = false ∧ s.control.drainTimer.isSome = true ∧ s.deskRequest = true ∧
     (s.desk .kiosk).spooler.spool ≠ [] ∧ (s.desk .kiosk).spooler.state ∈ [.printing, .waiting, .stalled] ∧
     (s.desk .console).spooler.state = .gap) ∧
    let s := { servingPort .closing .console .plain (.borrowerQuery 0) with
      control := { (inPart .closing).control with drainEnded := true }
      console := fullDesk
      kiosk := { fullDesk with spooler := { fullDesk.spooler with spool := [] } } }
    s.served = some (servingOf .console .plain, .console, .borrowerQuery 0) ∧ s.control.part = .closing ∧
    s.control.drainEnded = true ∧ s.control.openingPending = false ∧
    (∀ q ∈ [Port.console, .kiosk, .uplink], s.engine.waiting.get (portRequester q) = false) ∧
    s.journal.waitingDates = [] ∧ s.cutLosses .console = 1 ∧ s.spooledAfterCut .kiosk = 1 := by
  refine ⟨by decide, rfl, by decide⟩

/-- ClockEventsMoveTheDay: the day's last second with the date unset, in RETAINING, running with the sweep idle and served,
and at the last day; the opening and closing times in each part state; and a drain. -/
theorem test_ClockEventsMoveTheDay_hypotheses :
    (let s := { State.reset with clock := { State.reset.clock with time := 86399 } }
     s.clock.time = 86399 ∧ s.clock.dateUnset = true) ∧
    ((dated .retaining 0 86399).clock.time = 86399 ∧ (dated .retaining 0 86399).clock.today < 65535 ∧
      (dated .retaining 0 86399).control.part.running = false) ∧
    ((dated .open 65534 86399).clock.today < 65535 ∧ (dated .open 65534 86399).control.part.running = true ∧
      (dated .open 65534 86399).engine.serving.isSome = true ∧ (dated .open 65534 86399).sweep.state = .idle) ∧
    ((dated .night 65535 86399).clock.today = 65535 ∧ (dated .night 65535 86399).policy.data.desks.opening ≠ 0 ∧
      (dated .night 65535 86399).policy.data.desks.closing ≠ 0) ∧
    (∀ st ∈ [PartState.night, .closing, .open, .starting],
      (dated st 225 32400).clock.time = (dated st 225 32400).policy.data.desks.opening ∧
      (dated st 225 32400).policy.data.calendar.isOpen 225 = true ∧
      (dated st 225 32400).clock.time < (dated st 225 32400).policy.data.desks.closing ∧
      (dated st 225 72000).clock.time = (dated st 225 72000).policy.data.desks.closing ∧
      (dated st 225 72000).clock.dateUnset = false ∧ (dated st 225 72000).control.part = st) ∧
    let s := { dated .closing 225 72060 with
      control := { (inPart .closing).control with drainTimer := some 1, drainEnded := false } }
    s.control.part = .closing ∧ s.control.drainEnded = false ∧ s.control.drainTimer.isSome = true ∧
    s.deskRequest = false ∧ s.control.openingPending = false := by decide +kernel

/-- DueDaysAreOpenWhereTheyCanBe: both ends of the days; one shift, and fourteen; a due day within the expiry day, one walked
back to the last open day, and one at the day of the loan. -/
theorem test_DueDaysAreOpenWhereTheyCanBe_hypotheses :
    (65535 ≤ 65535 ∧ 0 ≤ 65535) ∧
    (1 ≤ 14 ∧ 222 = min (200 + 21 + 1) 65535 ∧ worked.isOpen 222 = true ∧
      ∀ j, j < 1 → worked.isOpen (min (200 + 21 + j) 65535) = false) ∧
    (let c := { worked with closedDays := BitVec.ofNat 512 ((2 ^ 16 - 1) * 2 ^ 221) }
     235 = min (200 + 21 + 14) 65535 ∧ ∀ j, j < 14 → c.isOpen (min (200 + 21 + j) 65535) = false) ∧
    222 ≤ 400 ∧ (216 < 222 ∧ worked.isOpen 215 = true ∧ ∀ y, 215 < y → y ≤ 216 → worked.isOpen y = false) ∧
    (200 < 222 ∧ ∀ y, 200 < y → y ≤ 200 → worked.isOpen y = false) := by
  refine ⟨by decide, ⟨by decide, by decide, by decide +kernel, by decide +kernel⟩, ⟨by decide, by decide +kernel⟩,
    by decide, ⟨by decide, by decide +kernel, fun y a b => ?_⟩, by decide, fun y a b => by omega⟩
  have : y = 216 := by omega
  subst this; decide +kernel

/-! ## Commits -/

/-- The plan of a CHECKOUT. -/
def plan1 (item : Nat) (isImplicit : Bool) : CheckoutPlan where
  borrower := 2210087765
  item := item
  itemClass := 3
  dueDay := 247
  bypassed := false
  clearHold := true
  clearMissing := isImplicit
  isImplicit := isImplicit

/-- CheckoutCommitMakesTheLoan: an item with an exception entry and no loan. -/
theorem test_CheckoutCommitMakesTheLoan_hypotheses :
    let s := servingPort .open .console (.checkout (plan1 30551842 false)) (.checkout 2210087765 30551842 false)
    s.served = some (servingOf .console (.checkout (plan1 30551842 false)), .console,
      .checkout 2210087765 30551842 false) ∧
    portDesk .console = some .console ∧ s.loan? 30551842 = none ∧ 30551842 ∉ s.loanList 2210087765 ∧ s.TablesAreMaps ∧
    s.journal.waitingDates = [] ∧ s.exception? 30551842 = some exception2 ∧ s.control.part = .open ∧
    (s.desk .console).ctx.openSlip = none :=
  ⟨rfl, rfl, by decide, by decide, servingPort_maps _ _ _ _, rfl, rfl, rfl, rfl⟩

/-- The same in CLOSING, and a RETURN: the commit leaves the part there, its printers not idle and the drain not ended. -/
theorem test_commits_stay_in_closing :
    (∃ t, exec .checkoutCommit
        (servingPort .closing .console (.checkout (plan1 30551842 false)) (.checkout 2210087765 30551842 false)) = .next t ∧
      t.control.part = .closing) ∧
    ∃ t, exec .returnCommit (servingPort .closing .console .plain (.returnItem 41739025)) = .next t ∧
      t.control.part = .closing := ⟨⟨_, rfl, by decide +kernel⟩, _, rfl, by decide +kernel⟩

/-- A part in OPEN whose Console desk has an open slip of `n` lines for borrower 1 and 16 slips in its spool. -/
def lined (n : Nat) : State :=
  (desked (slipped 16)).modCtx .console fun x =>
    { x with
      openSlip := some
        { borrower := 1, day := 0, time := 0, lines := List.replicate n { item := 1, dueDay := 0, renewed := false } } }

/-- CheckoutCommitMakesTheLoan, the slip line: no open slip, and one of 1, 6 and 7 lines for the borrower or another. -/
theorem test_CheckoutCommitMakesTheLoan_lines :
    (State.reset.desk .console).ctx.openSlip = none ∧
    ∀ n ∈ [1, 6, 7], ∃ o, ((lined n).desk .console).ctx.openSlip = some o ∧ o.borrower = 1 ∧ o.borrower ≠ 2 ∧
      o.lines.length = n :=
  ⟨rfl, fun n _ => ⟨_, rfl, rfl, (by decide : 1 ≠ 2), List.length_replicate⟩⟩

/-- ImplicitReturnsMoveTheLoan: an item on loan to another borrower. -/
theorem test_ImplicitReturnsMoveTheLoan_hypotheses :
    let s := servingPort .open .console (.checkout (plan1 41739025 true)) (.checkout 2210087765 41739025 false)
    s.served = some (servingOf .console (.checkout (plan1 41739025 true)), .console,
      .checkout 2210087765 41739025 false) ∧
    portDesk .console = some .console ∧ s.loan? 41739025 = some loan7 ∧ loan7.borrower ≠ 2210087765 ∧ s.TablesAreMaps ∧
    s.LoanListsLawful ∧ s.journal.waitingDates = [] ∧ s.exception? 41739025 = some exception1 ∧
    (plan1 41739025 true).clearHold = true ∧ s.control.part = .open :=
  ⟨rfl, rfl, rfl, by decide, servingPort_maps _ _ _ _, servingPort_lists _ _ _ _, rfl, rfl, rfl, rfl⟩

/-- ReturnCommitTakesTheLoanBack: an item on loan, one with a hold, and one that is not on loan. -/
theorem test_ReturnCommitTakesTheLoanBack_hypotheses :
    (∀ i, let s := servingPort .closing .kiosk .plain (.returnItem i)
      s.served = some (servingOf .kiosk .plain, .kiosk, .returnItem i) ∧ portDesk .kiosk = some .kiosk ∧
      s.TablesAreMaps ∧ s.LoanListsLawful ∧ s.journal.waitingDates = [] ∧
      (s.desk .kiosk).spooler.spool.length < 16) ∧
    let s := servingPort .closing .kiosk .plain (.returnItem 41739025)
    s.loan? 41739025 = some loan7 ∧ s.loan? 30551842 = none ∧ s.exception? 41739025 = some exception1 ∧
    exception1.holdFor = some 2210087765 ∧ s.exception? 1 = none :=
  ⟨fun i => ⟨rfl, rfl, servingPort_maps _ _ _ _, servingPort_lists _ _ _ _, rfl, (by decide : 0 < 16)⟩, rfl, by decide,
   rfl, rfl, by decide⟩

/-- ReturnCommitTakesTheLoanBack: with a hold on the item, in OPEN, at a spool of 15 slips and one of 16. -/
theorem test_ReturnCommitTakesTheLoanBack_spools (n : Nat) :
    let s := (servingPort .open .console .plain (.returnItem 41739025)).modSpooler .console fun x =>
      { x with spool := List.replicate n slip1 }
    s.served = some (servingOf .console .plain, .console, .returnItem 41739025) ∧ s.TablesAreMaps ∧ s.LoanListsLawful ∧
    s.journal.waitingDates = [] ∧ (s.desk .console).spooler.spool.length = n ∧
    (s.exception? 41739025).bind (·.holdFor) = some 2210087765 ∧ s.control.part = .open := by
  have a := servingPort_maps .open .console .plain (.returnItem 41739025)
  have b := servingPort_lists .open .console .plain (.returnItem 41739025)
  exact ⟨rfl, ⟨a.borrowers, a.loans, a.items⟩, ⟨b.owners, b.filled, b.members, b.once, b.ordered⟩, rfl,
    List.length_replicate, rfl, rfl⟩

/-- ReturnCommitTakesTheLoanBack: a RETURN at any occupancy (one that fills the journal at 3,071), of an item on loan with a
hold, at a full spool. -/
theorem test_ReturnCommitTakesTheLoanBack_full (n : Nat) (h : n ≤ 3072) :
    let s := { servingPort .open .console .plain (.returnItem 41739025) with journal := filled n, console := fullDesk }
    s.served = some (servingOf .console .plain, .console, .returnItem 41739025) ∧ s.TablesAreMaps ∧ s.LoanListsLawful ∧
    s.journal.waitingDates = [] ∧ s.journal.occupancy = n ∧ (s.desk .console).spooler.spool.length = 16 ∧
    s.control.part = .open := by
  have a := servingPort_maps .open .console .plain (.returnItem 41739025)
  have b := servingPort_lists .open .console .plain (.returnItem 41739025)
  exact ⟨rfl, ⟨a.borrowers, a.loans, a.items⟩, ⟨b.owners, b.filled, b.members, b.once, b.ordered⟩, rfl,
    filled_occupancy h, rfl, rfl⟩

/-- RenewCommitMovesTheDueDay: a loan renewed at the counter. -/
theorem test_RenewCommitMovesTheDueDay_hypotheses :
    let r : RenewPlan := { borrower := 5503120047, item := 41739025, newDue := 247, bypassed := false }
    let s := servingPort .open .console (.renew r) (.renew 5503120047 41739025 false)
    s.served = some (servingOf .console (.renew r), .console, .renew 5503120047 41739025 false) ∧
    portDesk .console = some .console ∧ s.loan? 41739025 = some loan7 ∧ s.TablesAreMaps ∧ s.LoanListsLawful ∧
    s.journal.waitingDates = [] := ⟨rfl, rfl, rfl, servingPort_maps _ _ _ _, servingPort_lists _ _ _ _, rfl⟩

/-- AccountCommitsChangeOneRecord: balances of 999,999 and 0, an absent borrower, and flags on an item with an entry and on
one without. -/
theorem test_AccountCommitsChangeOneRecord_hypotheses :
    (∀ op, let s := servingPort .open .console .plain op
      s.served = some (servingOf .console .plain, .console, op) ∧ s.TablesAreMaps ∧ s.journal.waitingDates = []) ∧
    let s := servingPort .open .console .plain (.finePay 5503120047 1)
    s.borrower? 5503120047 = some borrower1 ∧ 0 < min 1 borrower1.fineBalance ∧
    s.borrower? 2210087765 = some borrower2 ∧ min 1 borrower2.fineBalance = 0 ∧ s.borrower? 0 = none ∧
    s.exception? 41739025 = some exception1 ∧ { exception1 with missing := true } ≠ exception1 ∧
    { exception1 with missing := false } = exception1 ∧ s.exception? 9999999999 = none :=
  ⟨fun _ => ⟨rfl, servingPort_maps _ _ _ _, rfl⟩, rfl, by decide, rfl, by decide, by decide, rfl, by decide, by decide,
   by decide⟩

/-- QueriesChangeNoRecord: a borrower present, one absent, and a start past the list's end. -/
theorem test_QueriesChangeNoRecord_hypotheses :
    (∀ op, let s := servingPort .night .uplink .plain op
      s.served = some (servingOf .uplink .plain, .uplink, op) ∧ s.journal.waitingDates = []) ∧
    let s := servingPort .night .uplink .plain (.borrowerQuery 0)
    s.borrower? 0 = none ∧ s.borrower? 5503120047 = some borrower1 ∧ (s.loanList 5503120047).length < 255 :=
  ⟨fun _ => ⟨rfl, rfl⟩, by decide, rfl, by decide⟩

/-! ## Downloads -/

/-- PolicyLoadReplacesASection: a load from the Uplink port in OPEN. -/
theorem test_PolicyLoadReplacesASection_hypotheses :
    let s := servingPort .open .uplink .plain (.policyLoad (.deskTerms defaultDesks))
    s.served = some (servingOf .uplink .plain, .uplink, .policyLoad (.deskTerms defaultDesks)) ∧
    s.control.part = .open ∧ clampContents (.deskTerms defaultDesks) = .deskTerms defaultDesks :=
  ⟨rfl, rfl, by decide +kernel⟩

/-- PolicyLoadReplacesASection: in CLOSING with the drain going on, a Console load that changes an Active wand to
PRESENCE_HOLD with presence released, and turns auto-bind ON at the Console desk. -/
theorem test_PolicyLoadReplacesASection_closing :
    let new : DeskSection := { defaultDesks with console := { defaultDesks.console with wandMode := .presenceHold } }
    let s0 := (servingPort .closing .console .plain (.policyLoad (.deskTerms new))).modDesk .console fun x =>
      { x with
        wand := { x.wand with state := .active }
        spooler := { x.spooler with state := .stalled, spool := [slip1] }
        ctx := { x.ctx with queue := [report .borrower, report .item] } }
    let s := { s0 with policy := { s0.policy with data := { s0.policy.data with desks := { s0.policy.data.desks with
      console := { s0.policy.data.desks.console with autoBind := false } } } } }
    s.served = some (servingOf .console .plain, .console, .policyLoad (.deskTerms new)) ∧ s.control.part = .closing ∧
    s.control.drainEnded = false ∧ ¬(s.deskDrained .console = true ∧ s.deskDrained .kiosk = true) ∧
    clampContents (.deskTerms new) = .deskTerms new ∧ (s.terms .console).wandMode ≠ new.console.wandMode ∧
    (s.desk .console).ctx.presence = .released ∧ (s.desk .console).wand.state = .active ∧
    (s.terms .console).autoBind = false ∧ new.console.autoBind = true :=
  ⟨rfl, rfl, rfl, by decide, by decide +kernel, by decide, rfl, rfl, rfl, rfl⟩

/-- A BORROWER_LOAD record. -/
def load1 (borrower : Nat) (delta : Int) (remove : Nat) : BorrowerLoadRecord where
  borrower := borrower
  category := 7
  expiryDay := 65535
  serverBlock := 15
  delta := delta
  remove := remove
  reference := []

/-- A LOAN_LOAD record. -/
def load2 (item borrower desk : Nat) : LoanLoadRecord where
  item := item
  borrower := borrower
  itemClass := 3
  outDay := 200
  dueDay := 222
  chargedThrough := 222
  fineAccrued := 0
  renewals := 0
  desk := desk
  reference := []

/-- An ITEM_FLAGS_LOAD record. -/
def load3 (item action : Nat) (flags : Byte) : ItemLoadRecord where
  item := item
  action := action
  flags := flags
  holdBorrower := 2210087765
  classOverride := 255

/-- A table with a record in each of its first `n` slots. -/
def rangeTable {ρ : Type} (check : ρ → Check) (rcd : Nat → ρ) (n : Nat) : Table ρ :=
  let es : List (Entry ρ) := (List.range n).map fun i => { slot := i, rcd := rcd i, check := check (rcd i) }
  { entries := es, sum := storedSum es, health := .sound }

theorem rangeTable_lawful {ρ : Type} (check : ρ → Check) (rcd : Nat → ρ) (n : Nat) :
    (rangeTable check rcd n).Lawful check := by
  refine ⟨?_, ?_, rfl⟩
  · simp only [rangeTable, List.pairwise_map]; exact List.pairwise_lt_range
  · simp [rangeTable]

theorem rangeTable_isMap {ρ : Type} (check : ρ → Check) (rcd : Nat → ρ) (n : Nat) (key : ρ → Nat) {capacity : Nat}
    (keys : ∀ i, key (rcd i) = i) (h : n ≤ capacity) : (rangeTable check rcd n).IsMap key capacity := by
  refine ⟨?_, ?_⟩
  · simp only [rangeTable, List.pairwise_map, keys]; exact List.pairwise_lt_range.imp fun h => Nat.ne_of_lt h
  · simp only [rangeTable, List.mem_map, List.mem_range]; rintro e ⟨i, hi, rfl⟩; exact Nat.lt_of_lt_of_le hi h

theorem lowestFreeFrom_range' {ρ : Type} (f : Nat → Entry ρ) (slots : ∀ i, (f i).slot = i) (n : Nat) :
    ∀ k, lowestFreeFrom k ((List.range' k n).map f) = k + n := by
  induction n with
  | zero => intro k; rfl
  | succ n ih => intro k; rw [List.range'_succ, List.map_cons, lowestFreeFrom, if_pos (slots k), ih]; omega

theorem rangeTable_lowestFree {ρ : Type} (check : ρ → Check) (rcd : Nat → ρ) (n : Nat) :
    (rangeTable check rcd n).lowestFree = n := by
  rw [Table.lowestFree, rangeTable, List.range_eq_range', lowestFreeFrom_range' _ (fun _ => rfl), Nat.zero_add]

theorem rangeTable_absent {ρ : Type} (check : ρ → Check) (rcd : Nat → ρ) {n k : Nat} (key : ρ → Nat)
    (keys : ∀ i, key (rcd i) = i) (h : n ≤ k) : (rangeTable check rcd n).entry? key k = none := by
  simp only [Table.entry?, rangeTable, List.find?_eq_none, List.mem_map, List.mem_range]
  rintro e ⟨i, hi, rfl⟩
  simp only [keys, beq_iff_eq]; omega

/-- A part in NIGHT that serves an operation of the Uplink port, its three tables full: borrowers 0 to 6,143, items 0 to
12,287 on loan to borrower 5503120047, entries for items 0 to 2,047. -/
def fullTables (op : EngineOp) : State :=
  { servingPort .night .uplink .plain op with
    borrowers := rangeTable borrowerCheck (fun i => { borrower2 with number := i }) 6144
    loans := rangeTable loanCheck (fun i => { loan7 with item := i }) 12288
    items := rangeTable exceptionCheck (fun i => { exception1 with item := i }) 2048 }

theorem fullTables_maps (op : EngineOp) : (fullTables op).TablesAreMaps :=
  ⟨rangeTable_isMap _ _ _ _ (fun _ => rfl) (Nat.le_refl _), rangeTable_isMap _ _ _ _ (fun _ => rfl) (Nat.le_refl _),
   rangeTable_isMap _ _ _ _ (fun _ => rfl) (Nat.le_refl _)⟩

theorem fullTables_lawful (op : EngineOp) : (fullTables op).TablesLawful :=
  ⟨rangeTable_lawful _ _ _, rangeTable_lawful _ _ _, rangeTable_lawful _ _ _, rfl, rfl⟩

/-- LoadStepsApplyTheirRecord: records for a borrower present and absent, out of range, removed; for an item with an entry
and without, and one to remove; for an item on loan and not, of a borrower present and absent; and an undefined desk. -/
theorem test_LoadStepsApplyTheirRecord_hypotheses :
    (∀ r rest, let s := servingPort .night .uplink .plain (.borrowerLoad (r :: rest) [])
      s.served = some (servingOf .uplink .plain, .uplink, .borrowerLoad (r :: rest) []) ∧ s.TablesAreMaps) ∧
    (∀ r rest, let s := servingPort .night .uplink .plain (.itemFlagsLoad (r :: rest) [])
      s.served = some (servingOf .uplink .plain, .uplink, .itemFlagsLoad (r :: rest) []) ∧ s.TablesAreMaps) ∧
    (∀ r rest, let s := servingPort .night .uplink .plain (.loanLoad (r :: rest) [])
      s.served = some (servingOf .uplink .plain, .uplink, .loanLoad (r :: rest) []) ∧ s.TablesAreMaps ∧
      (s.port .uplink).inFlight.any (·.started) = true) ∧
    let s := stocked .night .uplink .plain
    (s.borrower? (load1 5503120047 999999 0).borrower = some borrower1 ∧ borrower1.loanCount ≠ 0 ∧
      s.borrower? (load1 2210087765 0 1).borrower = some borrower2 ∧ borrower2.loanCount = 0 ∧
      s.borrower? (load1 0 (-999999) 0).borrower = none ∧ s.borrowers.lowestFree < 6144 ∧
      9999999999 < (load1 10000000000 0 0).borrower ∧ (load1 0 (-1000000) 0).delta < -999999) ∧
    ((load3 1 0 0x81).flags &&& 0x78#8 = 0#8 ∧ (load3 1 0 0x81).flags.getLsbD 0 = (load3 1 0 0x81).flags.getLsbD 7 ∧
      s.exception? 1 = none ∧ s.items.lowestFree < 2048 ∧ s.exception? 41739025 = some exception1 ∧
      (load3 1 0 0x01).flags.getLsbD 0 ≠ (load3 1 0 0x01).flags.getLsbD 7 ∧ (load3 1 0 0x08).flags &&& 0x78#8 ≠ 0#8) ∧
    ((load2 1 5503120047 1).desk = 1 ∧ s.loan? 1 = none ∧ s.loans.lowestFree < 12288 ∧
      s.borrower? (load2 1 5503120047 1).borrower = some borrower1 ∧ s.borrower? (load2 1 0 1).borrower = none ∧
      s.loan? (load2 41739025 5503120047 0).item = some loan7 ∧ 1 < (load2 1 1 2).desk) := by
  refine ⟨fun _ _ => ⟨rfl, servingPort_maps _ _ _ _⟩, fun _ _ => ⟨rfl, servingPort_maps _ _ _ _⟩,
    fun _ _ => ⟨rfl, servingPort_maps _ _ _ _, rfl⟩,
    ⟨rfl, by decide, rfl, by decide, by decide, by decide, by decide, by decide⟩,
    ⟨by decide, by decide, by decide, by decide, rfl, by decide, by decide⟩,
    rfl, by decide, by decide, rfl, by decide, rfl, by decide⟩

theorem servingPort_served (op : EngineOp) : (fullTables op).served = some (servingOf .uplink .plain, .uplink, op) := rfl

/-- LoadStepsApplyTheirRecord: full tables, with a record for a borrower, an item and a loan that are absent; and a borrower
with 255 loans and one with 254. -/
theorem test_LoadStepsApplyTheirRecord_full :
    (∀ op, (fullTables op).TablesAreMaps ∧ (fullTables op).borrowers.lowestFree = 6144 ∧
      (fullTables op).items.lowestFree = 2048 ∧ (fullTables op).loans.lowestFree = 12288) ∧
    (∀ op, (fullTables op).served = some (servingOf .uplink .plain, .uplink, op)) ∧
    (∀ op k, 12288 ≤ k → (fullTables op).borrower? k = none ∧ (fullTables op).exception? k = none ∧
      (fullTables op).loan? k = none) ∧
    ∀ n ∈ [254, 255], ({ stocked .night .uplink .plain with loanLists := [(2210087765, List.range n)] } : State).loanList
      2210087765 = List.range n := by
  refine ⟨fun op => ⟨fullTables_maps op, rangeTable_lowestFree _ _ _, rangeTable_lowestFree _ _ _,
    rangeTable_lowestFree _ _ _⟩, fun op => ?_, fun op k h => ⟨?_, ?_, ?_⟩, fun n _ => ?_⟩
  · exact servingPort_served op
  · rw [State.borrower?, show (fullTables op).borrowers = rangeTable borrowerCheck (fun i => { borrower2 with number := i }) _ from rfl,
      rangeTable_absent _ _ BorrowerRecord.number (fun _ => rfl) (by omega)]; rfl
  · rw [State.exception?, show (fullTables op).items = rangeTable exceptionCheck (fun i => { exception1 with item := i }) _ from rfl,
      rangeTable_absent _ _ ExceptionRecord.item (fun _ => rfl) (by omega)]; rfl
  · rw [State.loan?, show (fullTables op).loans = rangeTable loanCheck (fun i => { loan7 with item := i }) _ from rfl,
      rangeTable_absent _ _ LoanRecord.item (fun _ => rfl) h]; rfl
  · simp [State.loanList]

/-- MarksAndPurgesWalkTheBorrowers: at the first slots and at the last, and just before the last. -/
theorem test_MarksAndPurges_hypotheses :
    (∀ cursor ∈ [0, 6079, 6080], let s := servingPort .night .uplink .plain (.markAll cursor 0)
      s.served = some (servingOf .uplink .plain, .uplink, .markAll cursor 0) ∧ s.TablesAreMaps ∧
      (s.port .uplink).inFlight.any (·.started) = true) ∧
    ∀ cursor ∈ [0, 6142, 6143], let s := servingPort .night .uplink .plain (.purgeMarked cursor 0 0)
      s.served = some (servingOf .uplink .plain, .uplink, .purgeMarked cursor 0 0) ∧ s.TablesAreMaps ∧
      s.TablesLawful ∧ (s.port .uplink).inFlight.any (·.started) = true :=
  ⟨fun _ _ => ⟨rfl, servingPort_maps _ _ _ _, rfl⟩,
   fun _ _ => ⟨rfl, servingPort_maps _ _ _ _, servingPort_lawful _ _ _ _, rfl⟩⟩

/-- A burst of the Uplink port alone meets the law of the desks' loans. -/
theorem uplinkBurst_lawful {s : State} {op : EngineOp} (served : ∃ v, s.served = some (v, .uplink, op))
    (ops : ∀ p o, s.portOp p = some o → p = .uplink ∧ o = op) (h : deskLoan op = false) : s.DeskLoansLawful := by
  obtain ⟨v, hv⟩ := served
  refine ⟨fun w p o e d => ?_, fun o e => ?_, fun p o e _ => (ops p o e).1⟩
  · rw [hv] at e; cases e; rw [h] at d; cases d
  · rw [(ops _ o e).2]; exact h

theorem servingPort_uplink (op : EngineOp) :
    ∀ p o, (servingPort .night .uplink .plain op).portOp p = some o → p = .uplink ∧ o = op := by
  intro p o h
  cases p
  · cases h
  · cases h
  · cases h; exact ⟨rfl, rfl⟩

theorem withTables_portOp (s : State) (b : Table BorrowerRecord) (l : Table LoanRecord) (i : Table ExceptionRecord) (p : Port) :
    ({ s with borrowers := b, loans := l, items := i } : State).portOp p = s.portOp p := by cases p <;> rfl

theorem fullTables_uplink (op : EngineOp) : ∀ p o, (fullTables op).portOp p = some o → p = .uplink ∧ o = op := by
  intro p o h
  rw [fullTables, withTables_portOp] at h
  exact servingPort_uplink op p o h

theorem fullTables_borrowers (op : EngineOp) : (fullTables op).borrowers.entries.length = 6144 := by
  simp only [fullTables, rangeTable, List.length_map, List.length_range]

/-- ClearsAndRebuildsWalkTheirTables: the phases, at the first slots and at the last, and a full borrower map. -/
theorem test_ClearsAndRebuilds_hypotheses :
    (∀ phase cursor : Nat, let s := servingPort .night .uplink .plain (.clearLoans phase cursor 0 0)
      s.served = some (servingOf .uplink .plain, .uplink, .clearLoans phase cursor 0 0) ∧ s.TablesAreMaps ∧
      s.LoanListsLawful ∧ s.DeskLoansLawful ∧ (s.port .uplink).inFlight.any (·.started) = true) ∧
    (∀ cursor : Nat, let s := servingPort .night .uplink .plain (.clearItems cursor 0)
      s.served = some (servingOf .uplink .plain, .uplink, .clearItems cursor 0) ∧ s.TablesAreMaps ∧
      s.DeskLoansLawful) ∧
    (∀ phase cursor : Nat, let s := servingPort .night .uplink .plain (.rebuildBorrowers phase cursor 0 0 0)
      s.served = some (servingOf .uplink .plain, .uplink, .rebuildBorrowers phase cursor 0 0 0) ∧ s.TablesAreMaps ∧
      s.TablesLawful ∧ s.DeskLoansLawful) ∧
    let s := fullTables (.rebuildBorrowers 2 0 6144 0 0)
    s.served = some (servingOf .uplink .plain, .uplink, .rebuildBorrowers 2 0 6144 0 0) ∧ s.TablesAreMaps ∧
    s.TablesLawful ∧ s.DeskLoansLawful ∧ s.borrowers.entries.length = 6144 :=
  ⟨fun _ _ => ⟨rfl, servingPort_maps _ _ _ _, servingPort_lists _ _ _ _,
     uplinkBurst_lawful ⟨_, rfl⟩ (servingPort_uplink _) rfl, rfl⟩,
   fun _ => ⟨rfl, servingPort_maps _ _ _ _, uplinkBurst_lawful ⟨_, rfl⟩ (servingPort_uplink _) rfl⟩,
   fun _ _ => ⟨rfl, servingPort_maps _ _ _ _, servingPort_lawful _ _ _ _,
     uplinkBurst_lawful ⟨_, rfl⟩ (servingPort_uplink _) rfl⟩,
   servingPort_served _, fullTables_maps _, fullTables_lawful _,
   uplinkBurst_lawful ⟨_, servingPort_served _⟩ (fullTables_uplink _) rfl, fullTables_borrowers _⟩

/-- ClearsAndRebuildsWalkTheirTables, the grant of a first step: in NIGHT, a burst not yet started. -/
theorem test_ClearsAndRebuilds_grants (op : EngineOp) :
    let s := State.reset.modPort .uplink fun q => { q with inFlight := some { flight op with started := false } }
    s.uplinkPort.inFlight = some { flight op with started := false } ∧ s.control.part = .night ∧
    s.health .loans = .sound ∧ s.health .items = .sound ∧ s.health .borrowers = .sound := ⟨rfl, rfl, rfl, rfl, rfl⟩

/-! ## The sweep, the Scrubber, the supply -/

/-- A first sweep batch at slot 0 and an occupancy of `n`, each of its 32 loans with 50 cents to charge. -/
def sweeping (n : Nat) : State :=
  { stocked .night .sweep .plain with
    loans := rangeTable loanCheck (fun i => { loan7 with item := i }) 32
    journal := filled n
    sweep := { state := .served, cursor := 0, firstBatch := true } }

/-- SweepBatchesChargeTheirSlots: at 2,271 entries the DAY_MARK and 32 FINE entries fit, and 2,304 entries stand after them;
at 2,272 the batch stops at its last loan; at 2,304, and at a full journal without its DAY_MARK, at its first. -/
theorem test_SweepBatches_hypotheses :
    (∀ n ∈ [2271, 2272, 2304, 3072],
      let s := sweeping n
      s.engine.serving = some (servingOf .sweep .plain) ∧ s.TablesAreMaps ∧ s.TablesLawful ∧ s.BalancesLawful ∧
      s.engine.waiting.sweep = false ∧ s.journal.waitingDates = [] ∧ s.journal.occupancy = n ∧ n ≤ 3072) ∧
    (∀ e ∈ (sweeping 2271).loans.entries, (sweeping 2271).sweep.cursor ≤ e.slot ∧ e.slot < 0 + 32) ∧
    (chargeLoan workedPolicy 225 loan7 (some 999999)).addedLoan = 50 ∧ 2271 + 1 + 31 < 2304 ∧ 2304 ≤ 2272 + 1 + 31 := by
  refine ⟨fun n hn => ?_, fun e he => ?_, by decide +kernel⟩
  · have h : n ≤ 3072 := by simp only [List.mem_cons, List.not_mem_nil, or_false] at hn; omega
    have a := stocked_maps .night .sweep .plain
    have b := stocked_lawful .night .sweep .plain
    refine ⟨rfl, ⟨a.borrowers, rangeTable_isMap _ _ _ _ (fun _ => rfl) (by decide), a.items⟩,
      ⟨b.borrowers, rangeTable_lawful _ _ _, b.items, rfl, rfl⟩, fun e he => ?_, rfl, rfl, filled_occupancy h, h⟩
    exact test_BalancesStayInRange_hypotheses e he
  · simp only [sweeping, rangeTable, List.mem_map, List.mem_range] at he
    obtain ⟨i, hi, rfl⟩ := he
    exact ⟨Nat.zero_le _, by omega⟩

/-- SweepBatchesChargeTheirSlots: the last slots of a pass, with no repeat due, with one, and with a pass pending. -/
theorem test_SweepBatches_end :
    let s := stocked .night .sweep .plain
    (s.engine.serving = some (servingOf .sweep .plain) ∧ s.TablesAreMaps ∧ s.TablesLawful ∧ s.BalancesLawful ∧
      s.engine.waiting.sweep = false ∧ s.journal.occupancy ≤ 3072 ∧ s.journal.waitingDates = []) ∧
    (12288 ≤ s.sweep.cursor + 32 ∧ s.clock.sweepRepeat = false ∧ s.clock.sweepPending = false ∧
      s.control.part.running = true ∧ (s.port .uplink).notices.length < 7) :=
  ⟨⟨rfl, stocked_maps _ _ _, stocked_lawful _ _ _, fun e he => test_BalancesStayInRange_hypotheses e he, rfl, by decide,
    rfl⟩, by decide⟩

/-- ScrubStepsCompareChecks: the Scrubber served after reset, with fewer than 16 occupied slots to examine; a record whose
stored check is wrong, in a SOUND table; and a pass sum that disagrees with no record at fault. -/
theorem test_ScrubSteps_hypotheses :
    (∃ v, State.reset.engine.serving = some v ∧ v.who = .scrubber ∧
      (((State.reset.checkedSlots State.reset.scrub.table).filter fun x =>
        State.reset.scrub.cursor ≤ x.slot).take 16).length < 16) ∧
    (let s := { State.reset with
      borrowers := { entries := [{ slot := 7, rcd := borrower2, check := borrowerCheck borrower2 + 1 }], sum := 0, health := .sound } }
     (((((s.checkedSlots s.scrub.table).filter fun x => s.scrub.cursor ≤ x.slot).take 16).find? fun x =>
        x.computed ≠ x.stored).map (·.slot)) = some 7 ∧ s.health s.scrub.table = .sound) ∧
    let s := { State.reset with borrowers := { entries := [], sum := 1, health := .sound } }
    s.checkedSlots s.scrub.table = [] ∧ s.scrub.isDisturbed s.scrub.table = false ∧
    s.scrub.passSum + ([] : List CheckSum).sum ≠ s.tableSum s.scrub.table ∧ s.health s.scrub.table = .sound :=
  ⟨⟨_, rfl, rfl, by decide⟩,
   ⟨by simp [State.checkedSlots, State.reset, Scrub.start], rfl⟩, by decide⟩

/-- ScrubStepsCompareChecks, the passes: a step that ends its pass with the Scrubber served again, and one that finds 16 slots
of a table that has more. -/
theorem test_ScrubSteps_passes :
    (∃ t, exec .scrubStep State.reset = .next t ∧ t.serves .scrubber = true) ∧
    let s := { stocked .night .scrubber .plain with
      loans := rangeTable loanCheck (fun i => { loan7 with item := i }) 20, scrub := { Scrub.start with table := .loans } }
    let xs := ((s.checkedSlots s.scrub.table).filter fun x => s.scrub.cursor ≤ x.slot).take 16
    (∃ v, s.engine.serving = some v ∧ v.who = .scrubber) ∧ xs.length = 16 ∧
    (xs.getLast?.map (·.slot)) = some 15 ∧ 15 + 1 < tableCapacity s.scrub.table :=
  ⟨⟨_, rfl, rfl⟩, ⟨_, rfl, rfl⟩, by decide +kernel, by decide +kernel, by decide⟩

/-- RetainingKeepsTheTables: both causes, outside RETAINING and in it; a commit begun; a battery sample. -/
theorem test_RetainingKeepsTheTables_hypotheses :
    (lending.control.part ≠ .retaining ∧ lending.control.supplyValid = true ∧ lending.control.resetAsserted = false ∧
      lending.journal.waitingDates = [] ∧
      lending.served = some (servingOf .console .plain, .console, .returnItem 41739025) ∧
      lending.loan? 41739025 = some loan7) ∧
    (∀ valid asserted : Bool,
      let s := { inPart .retaining with
        control := { (inPart .retaining).control with supplyValid := valid, resetAsserted := asserted } }
      s.control.part = .retaining ∧ s.control.supplyValid = valid ∧ s.control.resetAsserted = asserted) ∧
    State.reset.control.part.running = true :=
  ⟨⟨by decide, rfl, rfl, rfl, rfl, rfl⟩, fun _ _ => ⟨rfl, rfl, rfl⟩, rfl⟩

/-- RetainingKeepsTheTables, a commit begun: whatever a port is served has its own commit command, which answers a next
state; the sweep's and the Scrubber's do too; no port waits, and none has an unstarted request. -/
theorem test_RetainingKeepsTheTables_commits :
    (∀ op, let s := servingPort .open .console .plain op
      s.served = some (servingOf .console .plain, .console, op) ∧ (∃ r, exec op.commitCommand s = .next r) ∧
      s.control.part ≠ .starting ∧ s.journal.waitingDates = [] ∧
      (∀ p, s.engine.waiting.get (portRequester p) = false) ∧
      ∀ p fl, (s.port p).inFlight = some fl → fl.started = true) ∧
    ((stocked .open .sweep .plain).serves .sweep = true ∧ ∃ r, exec .sweepBatch (stocked .open .sweep .plain) = .next r) ∧
    State.reset.serves .scrubber = true ∧ ∃ r, exec .scrubStep State.reset = .next r := by
  refine ⟨fun op => ⟨rfl, by cases op <;> exact ⟨_, rfl⟩, (nofun : PartState.open ≠ .starting), rfl,
      fun p => by cases p <;> rfl, fun p fl h => ?_⟩,
    ⟨rfl, _, rfl⟩, rfl, _, rfl⟩
  cases p
  · cases h; rfl
  · cases h
  · cases h

/-- A part in STARTING, all volatile state at its start-up values. -/
def startingPart (latch : Bool) : State :=
  { dated .starting 225 32400 with
    control := { (inPart .starting).control with latch := latch, batteryTimer := none }
    engine := Engine.start
    consolePort := PortState.start
    kioskPort := PortState.start
    uplinkPort := PortState.start }

/-- StartUpsEnterService: with the latch set and clear; and with a STATUS taken and a damaged frame answered in STARTING. -/
theorem test_StartUpsEnterService_hypotheses (latch : Bool) :
    ∀ q ∈ [PortState.start,
        { PortState.start with
          inFlight := some { tag := 1, code := .status, op := none, started := false, label := none, discard := false }
          outQ := [reply1, { tag := 0, code := .badFrame, request := 0, flags := {}, results := [], isReply := false }]
          frameErrors := 1 }],
      let s := { startingPart latch with consolePort := q }
      s.control.part = .starting ∧ s.engine = Engine.start ∧ s.sweep = Sweep.start ∧ s.control.openingPending = false ∧
      s.control.batteryLow = false ∧ (s.port .console) = q ∧
      (∀ d, (s.desk d).spooler.spool = [] ∧ (s.desk d).ctx.openSlip = none) ∧ s.control.latch = latch :=
  fun _ _ => ⟨rfl, rfl, rfl, rfl, rfl, rfl, fun d => by cases d <;> exact ⟨rfl, rfl⟩, rfl⟩

/-- A part in STARTING that has made `n` of its comparisons; the exception list, the third table, disagrees with its sum. -/
def comparing (n : Nat) : State :=
  { startingPart true with
    control := { (startingPart true).control with startUp := { compared := n, found := [] } }
    items := { entries := [], sum := 1, health := .sound } }

/-- EmptyQueuePassesAMillisecond, RetainingKeepsTheTables, StartUpsEnterService: a start-up before the comparison of the
table at fault, at it, past it, and with none left; then a start-up at the occupancies where JOURNAL_LEVEL begins. -/
theorem test_StartUps_comparing :
    (∀ n, let s := comparing n
      s.pending = [] ∧ s.engine.serving = none ∧ s.journal.waitingDates = [] ∧ s.control.part = .starting ∧
      s.control.latch = true ∧ s.control.startUp.compared = n ∧ s.agrees .items = false ∧ s.health .items = .sound) ∧
    ([TableId.borrowers, .loans, .items, .policy][1]? = some .loans ∧
      [TableId.borrowers, .loans, .items, .policy][2]? = some .items ∧
      [TableId.borrowers, .loans, .items, .policy][3]? = some .policy ∧
      [TableId.borrowers, .loans, .items, .policy][4]? = none) ∧
    ∀ n ∈ [1535, 1536], let s := { startingPart true with journal := filled n }
      s.control.part = .starting ∧ s.engine = Engine.start ∧ s.control.latch = true ∧ s.journal.occupancy = n := by
  refine ⟨fun n => ⟨rfl, rfl, rfl, rfl, rfl, rfl, rfl, rfl⟩, by decide, fun n hn => ⟨rfl, rfl, rfl, filled_occupancy ?_⟩⟩
  simp only [List.mem_cons, List.not_mem_nil, or_false] at hn; omega

/-! ## One command on a small state -/

/-- The state after a command. -/
def after (c : Instr) (s : State) : State :=
  match exec c s with
  | .next t => t
  | .fault _ => s
  | .refused _ => s

/-- The reply codes waiting at a port. -/
def codes (s : State) (p : Port) : List ReplyCode := (s.port p).outQ.map (·.code)

/-- R147: DESK_OPEN in NIGHT enters OPEN whatever the date. -/
theorem test_deskOpen :
    (after (.deskOpen .console 7 []) State.reset).control.part = .open ∧
    codes (after (.deskOpen .console 7 []) State.reset) .console = [.ok] := by decide +kernel

/-- R52, R68: a CHECKOUT granted in OPEN with the date unset is refused DATE_UNSET. -/
theorem test_checkout_dateUnset :
    codes (after .scrubStep (after (.checkout .console 7 [0, 0, 0, 0, 1, 0, 0, 0, 0, 2, 0]) (inPart .open))) .console =
      [.dateUnset] := by decide +kernel

/-- R67: in NIGHT a CHECKOUT is refused DESK_CLOSED, and in CLOSING DESK_CLOSING, at acceptance. -/
theorem test_checkout_closed :
    codes (after (.checkout .kiosk 7 (List.replicate 11 0)) State.reset) .kiosk = [.deskClosed] ∧
    codes (after (.checkout .kiosk 7 (List.replicate 11 0)) (inPart .closing)) .kiosk = [.deskClosing] := by
  decide +kernel

/-- R81: an amount of 0 is out of range. -/
theorem test_finePay_range :
    codes (after (.finePay .console 7 [0, 0, 0, 0, 1, 0, 0, 0, 0]) (inPart .open)) .console = [.badField] := by
  decide +kernel

/-- R54: with the date set to day 225, day 224 is backward and day 626 out of range. -/
theorem test_dateSet_refused :
    codes (after (.dateSet .uplink 7 [0, 224, 0, 0, 0, 0]) (dated .night 225 0)) .uplink = [.dateBackward] ∧
    codes (after (.dateSet .uplink 7 [2, 114, 0, 0, 0, 0]) (dated .night 225 0)) .uplink = [.dateRange] := by
  decide +kernel

/-- R149: a DATE_SET to an open day within hours enters OPEN from NIGHT. -/
theorem test_dateSet_opens :
    (after (.dateSet .uplink 7 [0, 225, 0, 0, 140, 160]) State.reset).control.part = .open ∧
    (after (.dateSet .uplink 7 [0, 225, 0, 0, 140, 160]) State.reset).clock.time = 36000 := by decide +kernel

/-- R18: with auto-bind ON a BORROWER label is bound, and BORROWER_BOUND follows the notice already there. -/
theorem test_scanEnd_binds :
    let t := after (.scanEnd .console) (scanned .borrower id)
    (t.desk .console).ctx.bound = some { borrower := 41739025, time := 0 } ∧
    (t.port .console).notices = [.partState .night, .borrowerBound 41739025 0] := by decide +kernel

/-- R114: at the strobe of a slip's first character the character stands on the data lines and busy is held. -/
theorem test_slipCut_prints :
    let t := after (.slipCut .console 7 []) (desked (slipped 0))
    (t.desk .console).spooler.state = .waiting ∧ (t.desk .console).spooler.dataLines = some 76 ∧
    (t.desk .console).lines.busy = true := by decide +kernel

/-- R155: at a supply fail the desks are lost and the clock kept. -/
theorem test_supplyFail :
    let t := after (.supplyFail false) (desked (slipped 3))
    t.control.part = .retaining ∧ (t.desk .console).spooler.spool = [] ∧ t.journal.tail = 2 := by decide +kernel

/-- R153: a reset after the third comparison of a start-up keeps the exception list that disagrees SUSPECT, and after the
second leaves it SOUND. -/
theorem test_interrupted :
    (after (.resetAssert false) (comparing 2).tick).items.health = .suspect ∧
    (comparing 2).tick.control.startUp.found = [.items] ∧
    (after (.resetAssert false) (comparing 1).tick).items.health = .sound ∧
    (after (.resetAssert false) (comparing 2).tick).control.part = .retaining := by decide +kernel

/-- ScrubStepsCompareChecks, the marks: a commit that changes the loan map, and a scrub step with a mark set. -/
theorem test_ScrubSteps_marks :
    (lending.control.part.running = true ∧ exec .returnCommit lending = .next (after .returnCommit lending) ∧
      (after .returnCommit lending).control.part.running = true ∧
      lending.Changes (after .returnCommit lending) .loans) ∧
    let s := { State.reset with scrub := { Scrub.start with disturbed := ⟨false, true, false, false⟩ } }
    s.control.part.running = true ∧ s.scrub.isDisturbed .loans = true ∧
    ∃ t, exec .scrubStep s = .next t ∧ t.control.part.running = true :=
  ⟨⟨rfl, rfl, by decide +kernel, by unfold State.Changes; decide +kernel⟩, rfl, by decide, _, rfl, rfl⟩

/-- R93, R100: a batch that ends STALLED yields to the Uplink port and the Scrubber, which wait; the grant that follows takes
the Uplink port from the set, and the Scrubber stays in it. -/
theorem test_sweepBatch_stalledYields :
    let s := { stocked .night .sweep .plain with
      uplinkPort := { PortState.start with inFlight := some (flight (.markAll 64 0)) }
      engine :=
        { (stocked .night .sweep .plain).engine with waiting := { noRequester with uplink := true, scrubber := true } }
      sweep := { state := .served, cursor := 0, firstBatch := false }
      journal := { filled 0 with tail := 2304 } }
    let t := after .sweepBatch s
    s.journal.occupancy = 2304 ∧ t.sweep = { state := .stalled, cursor := 32, firstBatch := false } ∧
    t.serves .uplink = true ∧ t.engine.waiting.sweep = false ∧
    t.engine.yields.sweep = { noRequester with scrubber := true } := by decide +kernel

/-- R128, R167: the delivered copy of an entry whose check disagrees carries DAMAGED (0x10) at offset 12, and one whose check
agrees does not; the sequence is the position. -/
theorem test_delivered_damaged :
    let e : JournalEntry := { sequence := 1, fields := restartDraft, check := entryCheck restartDraft 1 }
    ({ e with check := e.check + 1 }.delivered 5)[12]? = some 0x10 ∧ (e.delivered 5)[12]? = some 0 ∧
    ({ e with sequence := 2 }.delivered 5)[12]? = some 0x10 ∧ ({ e with sequence := 2 }.delivered 5).take 4 = [0, 0, 0, 5] ∧
    (e.delivered 5).length = 32 := by decide +kernel

end Sys2Proof.Tests
end

section
/-! SUPPORT. The desk requests carried out at their acceptance: SCAN_TAKE (R26), SLIP_CUT (R108) and UNBIND (R22). A good
frame that R161 lets through runs its own rule on the state with the request in flight (`State.accepted`). The desk's
operations do not look at what is in flight, so the acceptance moves outward past each of them, up to the reply. -/

namespace Sys2Proof.Machine

open Host

/-! ## A request accepted at a port -/

/-- A port with a request just accepted: the receiver in HUNT, and the request in flight (R161). -/
def PortState.accepted (q : PortState) (tag : Byte) (code : ReqCode) : PortState :=
  { q with rx := .hunt, inFlight := some (InFlight.new tag code) }

/-- Placing a notice does not look at what is in flight (R164). -/
theorem PortState.accepted_place (q : PortState) (tag : Byte) (code : ReqCode) (n : Notice) :
    (q.accepted tag code).place n = (q.place n).accepted tag code := by
  by_cases room : q.notices.length < noticeCapacity <;> simp [PortState.place, PortState.accepted, room]

/-- The state with a request just accepted at a port, before its own rule (R161). -/
def State.accepted (s : State) (p : Port) (tag : Byte) (code : ReqCode) : State :=
  s.modPort p (·.accepted tag code)

/-- Updates of two ports, or two updates of one port that commute, may be made in either order. -/
theorem State.modPort_comm (s : State) (p r : Port) {f g : PortState → PortState} (h : ∀ q, g (f q) = f (g q)) :
    (s.modPort p f).modPort r g = (s.modPort r g).modPort p f := by
  cases p <;> cases r <;> simp [State.modPort, h]

/-- A port that can take a request runs the own rule of every permitted frame of the right length (R161). -/
theorem State.receive_of_takes {s : State} {p : Port} {code : ReqCode} {payload : List Byte} (takes : s.takes p)
    (allowed : permitted code p = true) (length : lengthAgrees code payload = true) (tag : Byte) (own : State → State) :
    s.receive p tag code payload own = own (s.accepted p tag code) := by
  obtain ⟨idle, running⟩ := takes
  have part : s.control.part ≠ .starting ∧ s.control.part ≠ .retaining := by
    constructor <;> intro h <;> simp [h, PartState.running] at running
  simp [State.receive, State.earlyAnswer, idle, allowed, length, part, State.takeFlight, State.accepted,
    PortState.accepted]

/-- The reply of a request just accepted (R160, R161). -/
@[simp] theorem State.accepted_reply (s : State) (p : Port) (tag : Byte) (request : ReqCode) (code : ReplyCode)
    (flags : ReplyFlags) (results : List Field) :
    (s.accepted p tag request).reply p code flags results = s.withReply p tag request code flags results := by
  simp [State.reply, State.accepted, State.withReply, PortState.accepted, InFlight.new, labelField]

/-! ## The acceptance and the desk's operations -/

section
variable (s : State) (p : Port) (tag : Byte) (code : ReqCode) (d : Desk)

@[simp] theorem State.accepted_desk : (s.accepted p tag code).desk d = s.desk d := State.modPort_desk ..

@[simp] theorem State.accepted_policy : (s.accepted p tag code).policy = s.policy := by simp [State.accepted]

@[simp] theorem State.accepted_modDesk (f : DeskSide → DeskSide) :
    (s.accepted p tag code).modDesk d f = (s.modDesk d f).accepted p tag code := by
  cases p <;> cases d <;> rfl

@[simp] theorem State.accepted_modCtx (f : DeskContext → DeskContext) :
    (s.accepted p tag code).modCtx d f = (s.modCtx d f).accepted p tag code := State.accepted_modDesk ..

@[simp] theorem State.accepted_notify (r : Port) (n : Notice) :
    (s.accepted p tag code).notify r n = (s.notify r n).accepted p tag code :=
  State.modPort_comm s p r fun q => PortState.accepted_place q tag code n

@[simp] theorem State.accepted_addLostSlips (k : Nat) :
    (s.accepted p tag code).addLostSlips d k = (s.addLostSlips d k).accepted p tag code := by
  cases p <;> cases d <;> rfl

@[simp] theorem State.accepted_startPrinting (x : Slip) :
    (s.accepted p tag code).startPrinting d x = (s.startPrinting d x).accepted p tag code := by
  simp [State.startPrinting, State.printNext, State.strobe, State.waitLimitMs, State.terms, State.modSpooler,
    State.modLines, apply_ite (State.accepted · p tag code)]

@[simp] theorem State.accepted_printHead : (s.accepted p tag code).printHead d = (s.printHead d).accepted p tag code := by
  unfold State.printHead
  rw [State.accepted_desk]
  cases (s.desk d).spooler.spool with
  | nil => exact State.accepted_modDesk ..
  | cons x _ => exact State.accepted_startPrinting ..

@[simp] theorem State.accepted_offerSlip (x : Slip) :
    (s.accepted p tag code).offerSlip x = (s.offerSlip x).accepted p tag code := by
  simp [State.offerSlip, State.spoolFull, State.loseSlip, State.appendSlip, State.modSpooler,
    apply_ite (State.accepted · p tag code)]

@[simp] theorem State.accepted_cut : (s.accepted p tag code).cut d = (s.cut d).accepted p tag code := by
  unfold State.cut
  rw [State.accepted_desk]
  cases (s.desk d).ctx.openSlip with
  | none => rfl
  | some o => simp

@[simp] theorem State.accepted_clearBound (cause : UnbindCause) :
    (s.accepted p tag code).clearBound d cause = (s.clearBound d cause).accepted p tag code := by
  unfold State.clearBound
  rw [State.accepted_desk]
  cases (s.desk d).ctx.bound with
  | none => rfl
  | some b => simp

end

/-! ## A cut leaves the binding -/

theorem State.startPrinting_ctx (s : State) (d e : Desk) (x : Slip) :
    ((s.startPrinting d x).desk e).ctx = (s.desk e).ctx := by
  unfold State.startPrinting State.printNext State.strobe
  split <;> by_cases h : e = d <;> simp [State.modSpooler_desk, State.modLines, State.modDesk_desk, h]

theorem State.printHead_ctx (s : State) (d e : Desk) : ((s.printHead d).desk e).ctx = (s.desk e).ctx := by
  unfold State.printHead
  split
  · exact State.startPrinting_ctx ..
  · by_cases h : e = d <;> simp [State.modSpooler_desk, h]

/-- An offered slip changes no desk's context, whether it is lost or joins the spool (R109). -/
theorem State.offerSlip_ctx (s : State) (x : Slip) (e : Desk) : ((s.offerSlip x).desk e).ctx = (s.desk e).ctx := by
  unfold State.offerSlip
  split
  case isTrue => cases e <;> simp
  case isFalse =>
    unfold State.appendSlip
    split <;> by_cases h : e = x.desk <;> simp [State.printHead_ctx, State.modSpooler_desk, h]

/-- A cut leaves the desk's borrower bound (R106). -/
theorem State.cut_bound (s : State) (d : Desk) : ((s.cut d).desk d).ctx.bound = (s.desk d).ctx.bound := by
  unfold State.cut
  split
  · rfl
  · simp [State.offerSlip_ctx]

/-! ## The slip status of a cut -/

/-- The status a cut reports: nothing cut, or what the slip met at the spool (R106, R108). -/
theorem cutStatus_cutLoses (s : State) (d : Desk) :
    cutStatus (s.cutLoses d) =
      if (s.desk d).ctx.openSlip = none then .none
      else if 16 ≤ (s.desk d).spooler.spool.length then .spoolFullLost else .queued := by
  unfold State.cutLoses State.spoolFull spoolCapacity
  cases (s.desk d).ctx.openSlip with
  | none => rfl
  | some o => by_cases full : 16 ≤ (s.desk d).spooler.spool.length <;> simp [full, cutStatus]

/-- SLIP_LOST stands in the reply of a cut exactly where the status says the slip was lost (R22, R108). -/
theorem cutFlags_eq (c : Option Bool) : cutFlags c = { slipLost := cutStatus c == .spoolFullLost } := by
  rcases c with _ | _ | _ <;> rfl

@[simp] theorem State.accepted_cutLoses (s : State) (p : Port) (tag : Byte) (code : ReqCode) (d : Desk) :
    (s.accepted p tag code).cutLoses d = s.cutLoses d := by
  simp [State.cutLoses, State.spoolFull]

/-! ## The requests, at a desk's port -/

theorem portDeskOr_of_portDesk {p : Port} {d : Desk} (h : portDesk p = some d) : portDeskOr p = d := by
  cases p <;> simp_all [portDesk, portDeskOr]

/-- The ports of the desks are the ports other than the Uplink's (R16). -/
theorem ne_uplink_of_portDesk {p : Port} {d : Desk} (h : portDesk p = some d) : (p != .uplink) = true := by
  cases p <;> simp_all [portDesk]

section
variable {s : State} {p : Port} {d : Desk}

theorem exec_scanTake (takes : s.takes p) (at_desk : portDesk p = some d) (tag : Byte) :
    exec (.scanTake p tag []) s = .next (ownScanTake p (s.accepted p tag .scanTake)) :=
  congrArg Outcome.next
    (State.receive_of_takes (code := .scanTake) takes (ne_uplink_of_portDesk at_desk) rfl tag (ownScanTake p))

theorem exec_slipCut (takes : s.takes p) (at_desk : portDesk p = some d) (tag : Byte) :
    exec (.slipCut p tag []) s = .next (ownSlipCut p (s.accepted p tag .slipCut)) :=
  congrArg Outcome.next
    (State.receive_of_takes (code := .slipCut) takes (ne_uplink_of_portDesk at_desk) rfl tag (ownSlipCut p))

theorem exec_unbind (takes : s.takes p) (at_desk : portDesk p = some d) (tag : Byte) :
    exec (.unbind p tag []) s = .next (ownUnbind p (s.accepted p tag .unbind)) :=
  congrArg Outcome.next
    (State.receive_of_takes (code := .unbind) takes (ne_uplink_of_portDesk at_desk) rfl tag (ownUnbind p))

end

/-- A take of a queue's front entry, which becomes the last taken (R26). -/
theorem State.takeLabel_cons {s : State} {d : Desk} {r : LabelReport} {rest : List LabelReport}
    (h : (s.desk d).ctx.queue = r :: rest) : s.takeLabel d = s.withoutOldest d r rest := by
  cases d <;> simp_all [State.takeLabel, State.withoutOldest, State.modCtx, State.modDesk]

end Sys2Proof.Machine
end

section
/-! The obligations of the desks: SCAN_TAKE, SLIP_CUT and UNBIND. -/

namespace Sys2Proof.Machine

/-- Settles O33, by the three cases of the scan queue and the last taken label. -/
theorem scanTakeTakesTheOldest : Obligations.ScanTakeTakesTheOldest := by
  intro p d tag s takes at_desk
  have desk := portDeskOr_of_portDesk at_desk
  rw [exec_scanTake takes at_desk]
  refine ⟨fun r rest queue => ?_, fun r queue last => ?_, fun queue last => ?_⟩
  · have taken : (s.accepted p tag .scanTake).takeLabel d = (s.withoutOldest d r rest).accepted p tag .scanTake := by
      rw [State.takeLabel_cons (by rw [State.accepted_desk, queue])]; exact State.accepted_modDesk ..
    simp [ownScanTake, desk, queue, taken, State.withoutOldest]
  · simp [ownScanTake, desk, queue, last, State.modCtx]
  · simp [ownScanTake, desk, queue, last, State.modCtx]

/-- Settles O34: the acceptance moves outward past the cut and the unbind, and the cut leaves the borrower bound. -/
theorem cutAndUnbindOnRequest : Obligations.CutAndUnbindOnRequest := by
  intro p d tag status s takes at_desk status_eq
  have desk := portDeskOr_of_portDesk at_desk
  rw [← cutStatus_cutLoses] at status_eq
  subst status_eq
  have unbound : exec (.unbind p tag []) s = .next
      (((s.cut d).clearBound d .request).withReply p tag .unbind .ok
        { slipLost := cutStatus (s.cutLoses d) == .spoolFullLost }
        (optField .ident (s.current d) ++ [(cutStatus (s.cutLoses d)).field])) := by
    rw [exec_unbind takes at_desk]
    simp [ownUnbind, desk, State.unbindOrCut, State.current, cutFlags_eq]
  refine ⟨?_, fun bound => ?_, fun b bound => ?_⟩
  · rw [exec_slipCut takes at_desk]
    simp [ownSlipCut, desk, cutFlags_eq, SlipStatus.field]
  · rw [unbound]
    simp [State.clearBound, State.cut_bound, bound, State.current, optField, SlipStatus.field]
  · rw [unbound]
    simp [State.clearBound, State.cut_bound, bound, State.current, optField, SlipStatus.field, State.modCtx]

end Sys2Proof.Machine
end

section
/-! SUPPORT. The notice queues (R164, R165): where each routing places a notice, and NOTICE_TAKE carried out at its
acceptance, which leaves the queue as it was. -/

namespace Sys2Proof.Machine

open Host

/-! ## A placed notice, port by port -/

section
variable (s : State) (n : Notice)

theorem State.notify_port (p q : Port) :
    (s.notify p n).port q = if q = p then (s.port q).place n else s.port q := by
  rw [State.notify, State.modPort_port]
  split
  case isTrue same => rw [same]
  case isFalse => rfl

theorem State.notifyConsoleUplink_port (q : Port) :
    (s.notifyConsoleUplink n).port q = if q = .kiosk then s.port q else (s.port q).place n := by
  simp only [State.notifyConsoleUplink, State.notify_port]
  cases q <;> rfl

/-- Each queue is routed to once, so what one holds decides nothing at another (R164). -/
theorem State.notifyAll_port (q : Port) : (s.notifyAll n).port q = (s.port q).place n := by
  simp only [State.notifyAll, State.notify_port]
  cases q <;> rfl

end

/-! ## NOTICE_TAKE at its acceptance -/

section
variable (s : State) (p : Port) (tag : Byte) (code : ReqCode)

@[simp] theorem State.accepted_notices : ((s.accepted p tag code).port p).notices = (s.port p).notices := by
  simp [State.accepted, PortState.accepted]

/-- The acceptance and a change of the port's notices may be made in either order. -/
@[simp] theorem State.accepted_setNotices (rest : List Notice) :
    ((s.accepted p tag code).modPort p fun q => { q with notices := rest }) =
      (s.modPort p fun q => { q with notices := rest }).accepted p tag code :=
  State.modPort_comm s p p fun _ => rfl

end

/-- Every port may take its notices, and the request has no payload (R161, R168). -/
theorem exec_noticeTake {s : State} {p : Port} (takes : s.takes p) (tag : Byte) :
    exec (.noticeTake p tag []) s = .next (ownNoticeTake p (s.accepted p tag .noticeTake)) :=
  congrArg Outcome.next (State.receive_of_takes (code := .noticeTake) takes rfl rfl tag (ownNoticeTake p))

end Sys2Proof.Machine
end

section
/-! The obligation of the notice queues: notices placed, lost and taken. -/

namespace Sys2Proof.Machine

/-- Settles O25: the routing of a placed notice port by port, and the own rule of NOTICE_TAKE by the two cases of the
queue. -/
theorem noticesAreTakenInOrder : Obligations.NoticesAreTakenInOrder := by
  constructor
  case left =>
    intro n s placed placed_eq
    obtain rfl : placed = (·.place n) := placed_eq
    exact ⟨s.notify_port n, s.notifyAll_port n, s.notifyConsoleUplink_port n⟩
  case right =>
    intro p tag s takes
    rw [exec_noticeTake takes]
    refine ⟨fun n rest queue => ?_, fun queue => ?_⟩
    · simp [ownNoticeTake, queue]
    · simp [ownNoticeTake, queue]

end Sys2Proof.Machine
end
